-- ==== Sys2Proof/Word.lean ====
section
/-! DEFINITION. The words of the hardware and its closed sets of names (00_scope.md R5, R6, R8; 10_state.md R11 to
R20). `true` is the level 1 (high, released), `false` the level 0 (R6). -/

namespace Sys2Proof

/-- A line level (R6): `true` is 1, high, released; `false` is 0, low. -/
abbrev Level := Bool

/-- A device address: `ADDR_BITS` = 7 bits, 0 to 127 (R5). -/
abbrev Addr := BitVec 7

/-- One transfer: `BYTE_BITS` = 8 bits (R5). -/
abbrev Byte := BitVec 8

/-- `bit_position` (R15): an unsigned count, 0 to 8, nine values. -/
abbrev BitCount := Fin 9

/-- The handle of the registry (R21), a name only. DESIGN CHOICE (log 4): the spec gives it no width. -/
abbrev Handle := Nat

/-- `BUS_NAME` (R5, R21): an inert label. DESIGN CHOICE (log 4): a number names the label. -/
abbrev Label := Nat

/-- An operation word, right aligned; every format of R60 is narrower than 16 bits. -/
abbrev OpWord := BitVec 16

/-- `decoder_state` (R19), in the order of R62. -/
inductive DecoderState where
  | idle | receive | receiveWait | acknowledge | transmitStart | transmit | transacknowledge | transmitWait
  deriving DecidableEq, Repr

/-- `transfer_state` (R20), in the order of R63. -/
inductive TransferState where
  | idle | receiveAddress | receiveData | sendData | invalid
  deriving DecidableEq, Repr

/-- `direction` (R17): WRITE (master-to-slave) or READ (slave-to-master). -/
inductive Direction where
  | write | read
  deriving DecidableEq, Repr

/-- `drive_role` (R18): who produces the data bits. -/
inductive DriveRole where
  | txMaster | txSlave
  deriving DecidableEq, Repr

/-- The event classes of R61. -/
inductive EventClass where
  | low | rise0 | rise1 | fall | hold | start | stop
  deriving DecidableEq, Repr

end Sys2Proof
end

