-- ==== Sys2Proof/Config.lean ====
section
/-! DEFINITION. What is fixed for a machine and not state: the two switches (00_scope.md R5, decisions D8, D9) and the
device registry, which the spec leaves OPEN (45_registry_interface.md R210, decision D25). Every constant without a
body is a free value: nothing in Lean can evaluate it (log 2). -/

namespace Sys2Proof.Config

/-- The switches of R5: each chooses between two readings of the source. -/
structure Switches where
  /-- `P_STOP_ALL_STATES` (D9): a stop is honoured in ACKNOWLEDGE, TRANSMIT and TRANSACKNOWLEDGE too. -/
  stopAllStates : Bool
  /-- `P_IDLE_LOOSE_START` (D8): IDLE accepts a start without testing the previous clock level. -/
  idleLooseStart : Bool
  deriving DecidableEq, Repr

/-- R5: "every rule and every test vector of this spec is written for the value `true`". -/
def switches : Switches := { stopAllStates := true, idleLooseStart := true }

/-- The open registry's `has : Reg → Addr → Bool` (R205, R210). FREE VALUE. -/
opaque registryHas : Nat → Addr → Bool

/-- The open registry's state after `transaction_start` (R206, R210). FREE VALUE. -/
opaque registryAfterStart : Nat → Addr → Nat

/-- The open registry's state after `transaction_end` (R207, R210). FREE VALUE. -/
opaque registryAfterEnd : Nat → Addr → Nat

/-- The byte the open registry returns to `read_byte` (R208, R210): "any of the 256 values". FREE VALUE. -/
opaque registryByte : Nat → Addr → Byte

/-- The open registry's state after `read_byte`, which may change it (R45, R208). FREE VALUE. -/
opaque registryAfterRead : Nat → Addr → Nat

/-- The open registry's state after `write_byte` (R209, R210). FREE VALUE. -/
opaque registryAfterWrite : Nat → Addr → Byte → Nat

end Sys2Proof.Config
end

