-- ==== Sys2Proof/Syntax.lean ====
section
/-! DEFINITION. The operations of the hardware (30_encoding.md R60, R66 to R69): one constructor of `Instr` per row of the
operation table, and the form in which an operation is presented at a boundary. -/

namespace Sys2Proof

/-- The formats of R60 that select an operation (`EVT` is part of `UPD`). The boundary an operation arrives at says
its format; the words of two formats coincide (log 3). -/
inductive Format where
  | upd | host | ctl | cbyte | reg | addr
  deriving DecidableEq, Repr

/-- The width of a format's word (R60); `HOST` is 5 bits wide for `UPDATE`. -/
def Format.width : Format → Nat
  | .upd => 7
  | .host => 5
  | .ctl => 2
  | .cbyte => 11
  | .reg => 3
  | .addr => 8

/-- The operands an operation carries beside its word: `create(registry_ref, bus_name)` (R191), the `address` and
`byte` of a registry call (R60, R69). -/
inductive Beside where
  | none
  | attach (ref : Handle) (label : Label)
  | address (a : Addr)
  | addressByte (a : Addr) (b : Byte)
  deriving DecidableEq, Repr

/-- One operation as it is presented at a boundary. -/
structure Call where
  fmt : Format
  word : OpWord
  beside : Beside
  deriving DecidableEq, Repr

/-- The operations. In a `UPD` row the fields are the letters of its encoding: `pd` and `d` where they do not
matter for the class (R66). -/
inductive Instr where
  -- format UPD
  | idleStart
  | idleLstart
  | idleRise0
  | idleRise1 (pd : Level)
  | idleStop
  | idleFall (pd d : Level)
  | idleLow (pd d : Level)
  | idleHold0
  | idleHold1
  | receiveRise (pd d : Level)
  | receiveStop
  | receiveStart
  | receiveFall (pd d : Level)
  | receiveLow (pd d : Level)
  | receiveHold0
  | receiveHold1
  | receiveWaitRise (pd d : Level)
  | receiveWaitStop
  | receiveWaitStart
  | receiveWaitFall (pd d : Level)
  | receiveWaitLow (pd d : Level)
  | receiveWaitHold0
  | receiveWaitHold1
  | acknowledgeRise (pd d : Level)
  | acknowledgeStop
  | acknowledgeStart
  | acknowledgeFall (pd d : Level)
  | acknowledgeLow (pd d : Level)
  | acknowledgeHold0
  | acknowledgeHold1
  | transmitStartRise (pd d : Level)
  | transmitStartStop
  | transmitStartStart
  | transmitStartFall (pd d : Level)
  | transmitStartLow (pd d : Level)
  | transmitStartHold0
  | transmitStartHold1
  | transmitRise (pd d : Level)
  | transmitFall (pd d : Level)
  | transmitStop
  | transmitStart
  | transmitLow (pd d : Level)
  | transmitHold0
  | transmitHold1
  | transacknowledgeRise1 (pd : Level)
  | transacknowledgeRise0 (pd : Level)
  | transacknowledgeStop
  | transacknowledgeStart
  | transacknowledgeFall (pd d : Level)
  | transacknowledgeLow (pd d : Level)
  | transacknowledgeHold0
  | transacknowledgeHold1
  | transmitWaitStart
  | transmitWaitStop
  | transmitWaitRise (pd d : Level)
  | transmitWaitFall (pd d : Level)
  | transmitWaitLow (pd d : Level)
  | transmitWaitHold0
  | transmitWaitHold1
  -- format HOST
  | create (ref : Handle) (label : Label)
  | destroy
  | update (c d : Level)
  | getClockLevel
  | getDataLevel
  | getRegistryHandle
  -- format CTL
  | consumeByte
  | nextByte
  | endTransaction
  -- format CBYTE
  | consumeIdleWr (a : Addr)
  | consumeIdleRd (a : Addr)
  | consumeReceiveAddress (b : Byte)
  | consumeReceiveData (b : Byte)
  | consumeSendData (b : Byte)
  | consumeInvalid (b : Byte)
  -- format REG
  | hasDevice (a : Addr)
  | transactionStart (a : Addr)
  | transactionEnd (a : Addr)
  | readByte (a : Addr)
  | writeByte (a : Addr) (b : Byte)
  -- format ADDR
  | addrWrite (a : Addr)
  | addrRead (a : Addr)
  deriving DecidableEq, Repr

/-- The format of an operation's row. -/
def Instr.format : Instr → Format
  | .idleStart | .idleLstart | .idleRise0 | .idleRise1 .. | .idleStop | .idleFall .. | .idleLow ..
  | .idleHold0 | .idleHold1 | .receiveRise .. | .receiveStop | .receiveStart | .receiveFall ..
  | .receiveLow .. | .receiveHold0 | .receiveHold1 | .receiveWaitRise .. | .receiveWaitStop
  | .receiveWaitStart | .receiveWaitFall .. | .receiveWaitLow .. | .receiveWaitHold0 | .receiveWaitHold1
  | .acknowledgeRise .. | .acknowledgeStop | .acknowledgeStart | .acknowledgeFall .. | .acknowledgeLow ..
  | .acknowledgeHold0 | .acknowledgeHold1 | .transmitStartRise .. | .transmitStartStop | .transmitStartStart
  | .transmitStartFall .. | .transmitStartLow .. | .transmitStartHold0 | .transmitStartHold1
  | .transmitRise .. | .transmitFall .. | .transmitStop | .transmitStart | .transmitLow .. | .transmitHold0
  | .transmitHold1 | .transacknowledgeRise1 .. | .transacknowledgeRise0 .. | .transacknowledgeStop
  | .transacknowledgeStart | .transacknowledgeFall .. | .transacknowledgeLow .. | .transacknowledgeHold0
  | .transacknowledgeHold1 | .transmitWaitStart | .transmitWaitStop | .transmitWaitRise ..
  | .transmitWaitFall .. | .transmitWaitLow .. | .transmitWaitHold0 | .transmitWaitHold1 => .upd
  | .create .. | .destroy | .update .. | .getClockLevel | .getDataLevel | .getRegistryHandle => .host
  | .consumeByte | .nextByte | .endTransaction => .ctl
  | .consumeIdleWr .. | .consumeIdleRd .. | .consumeReceiveAddress .. | .consumeReceiveData ..
  | .consumeSendData .. | .consumeInvalid .. => .cbyte
  | .hasDevice .. | .transactionStart .. | .transactionEnd .. | .readByte .. | .writeByte .. => .reg
  | .addrWrite .. | .addrRead .. => .addr

/-- Why the decoder rejects a call (R72 b, decision D28: "a model's decoder refuses them"). -/
inductive DecodeError where
  /-- The word has bits above its format's width (R60). -/
  | wordTooWide
  /-- `HOST` ops 6 and 7 (R67, R72 b). -/
  | reservedHostOp
  /-- A `HOST` word that is neither a 3-bit operation nor a 5-bit `UPDATE` (R67). -/
  | malformedHostWord
  /-- `CTL` cmd 3 (R68, R72 b). -/
  | reservedCtlCommand
  /-- `transfer_state` codes 5 to 7 (R63, R72 b, R169). -/
  | reservedTransferState
  /-- `REG` ops 5 to 7 (R69, R72 b). -/
  | reservedRegistryOp
  /-- The operands beside the word are not those of the operation (R69, R191). -/
  | operandsMismatch
  deriving DecidableEq, Repr

end Sys2Proof
end

