-- ==== Sys2Proof/WellFormed.lean ====
section
/-! DEFINITION. Which presented calls are well formed. The bounds on an operation's own operands (R5: a 7-bit address,
8-bit bytes, one-bit levels) are in the types of `Instr`, so no ill-formed `Instr` can be written; what can be ill
formed is a call: a word and the operands beside it. -/

namespace Sys2Proof

/-- The word has no bit above its format's width (R60). -/
def Call.fitsWidth (k : Call) : Bool := decide (k.word.toNat < 2 ^ k.fmt.width)

/-- The word holds a code the spec assigns (R66 to R69): none of the reserved ones of R72 (b), and a `HOST` word is a
3-bit operation or a 5-bit `UPDATE`. -/
def Call.codeAssigned (k : Call) : Bool :=
  match k.fmt with
  | .upd | .addr => true
  | .host => [0, 1, 3, 4, 5, 8, 9, 10, 11].contains k.word.toNat
  | .ctl => decide (k.word.toNat < 3)
  | .cbyte => decide (k.word.toNat < 5 * 2 ^ 8)
  | .reg => decide (k.word.toNat < 5)

/-- The operands beside the word are those of the operation (R191, R205 to R209); every other operation has none. -/
def Call.besideFits (k : Call) : Bool :=
  match k.fmt, k.word.toNat, k.beside with
  | .host, 0, .attach .. => true
  | .host, 0, _ => false
  | .reg, 4, .addressByte .. => true
  | .reg, 4, _ => false
  | .reg, _, .address .. => true
  | .reg, _, _ => false
  | _, _, .none => true
  | _, _, _ => false

/-- A call a decoder accepts. -/
def Call.wellFormed (k : Call) : Bool := k.fitsWidth && k.codeAssigned && k.besideFits

end Sys2Proof
end

