-- ==== Sys2Proof/Decode.lean ====
section
/-! DEFINITION. The numeric codes (30_encoding.md R61 to R65), the decoder, total on every call and rejecting by name,
and the encoder (R60, R66 to R69; the rows of `opcode_table.json`). -/

namespace Sys2Proof

/-- Codes of `decoder_state` (R62). -/
def DecoderState.code : DecoderState → BitVec 3
  | .idle => 0
  | .receive => 1
  | .receiveWait => 2
  | .acknowledge => 3
  | .transmitStart => 4
  | .transmit => 5
  | .transacknowledge => 6
  | .transmitWait => 7

/-- The state of a code (R62): "All eight codes of the 3-bit field are used". -/
def decoderStateOf (k : BitVec 3) : DecoderState :=
  match k.toNat with
  | 0 => .idle
  | 1 => .receive
  | 2 => .receiveWait
  | 3 => .acknowledge
  | 4 => .transmitStart
  | 5 => .transmit
  | 6 => .transacknowledge
  | _ => .transmitWait

/-- Codes of `transfer_state` (R63). -/
def TransferState.code : TransferState → BitVec 3
  | .idle => 0
  | .receiveAddress => 1
  | .receiveData => 2
  | .sendData => 3
  | .invalid => 4

/-- Codes of `direction` (R65): equal to `read_flag`. -/
def Direction.code : Direction → BitVec 1
  | .write => 0
  | .read => 1

/-- Codes of `drive_role` (R65). -/
def DriveRole.code : DriveRole → BitVec 1
  | .txMaster => 0
  | .txSlave => 1

/-- `current_address` as `{valid, a[6:0]}` (R65); under `valid = 0` "the address bits then have no meaning", and the
model writes zeros there. DESIGN CHOICE (log 4). -/
def addressCode : Option Addr → BitVec 8
  | none => 0#8
  | some a => 1#1 ++ a

/-- A bit placed at position `n` of an operation word. -/
def bitAt (n : Nat) (v : Bool) : OpWord := BitVec.ofNat 16 v.toNat <<< n

/-- The event word `EVT` = `{pc, pd, c, d}` (R61). -/
def evtWord (pc pd c d : Level) : OpWord := bitAt 3 pc ||| bitAt 2 pd ||| bitAt 1 c ||| bitAt 0 d

/-- The `UPD` word `{decoder_state, EVT}` (R60, R66). -/
def updWord (st : DecoderState) (pc pd c d : Level) : OpWord :=
  st.code.setWidth 16 <<< 4 ||| evtWord pc pd c d

/-- The `CBYTE` word `{transfer_state, byte}` (R60, R68). -/
def cbyteWord (ts : TransferState) (b : Byte) : OpWord := ts.code.setWidth 16 <<< 8 ||| b.setWidth 16

/-- The address byte `(7-bit address << 1) | read_flag` (R64). -/
def addressByte (a : Addr) (readFlag : Bool) : Byte := a ++ BitVec.ofBool readFlag

/-- `address[7:1]` of an address byte (R64). -/
def addressOf (b : Byte) : Addr := b.extractLsb' 1 7

/-- `read_flag[0]` of an address byte (R64). -/
def readFlagOf (b : Byte) : Bool := b.getLsbD 0

/-- The cell a `UPD` word selects (R66): "The 59 `UPD` rows partition the 128 words". -/
def decodeUpd (st : DecoderState) (pc pd c d : Level) : Instr :=
  match st, pc, pd, c, d with
  | .idle, true, true, true, false => .idleStart
  | .idle, false, true, true, false => .idleLstart
  | .idle, false, false, true, false => .idleRise0
  | .idle, false, pd, true, true => .idleRise1 pd
  | .idle, true, false, true, true => .idleStop
  | .idle, true, pd, false, d => .idleFall pd d
  | .idle, false, pd, false, d => .idleLow pd d
  | .idle, true, false, true, false => .idleHold0
  | .idle, true, true, true, true => .idleHold1
  | .receive, false, pd, true, d => .receiveRise pd d
  | .receive, true, false, true, true => .receiveStop
  | .receive, true, true, true, false => .receiveStart
  | .receive, true, pd, false, d => .receiveFall pd d
  | .receive, false, pd, false, d => .receiveLow pd d
  | .receive, true, false, true, false => .receiveHold0
  | .receive, true, true, true, true => .receiveHold1
  | .receiveWait, false, pd, true, d => .receiveWaitRise pd d
  | .receiveWait, true, false, true, true => .receiveWaitStop
  | .receiveWait, true, true, true, false => .receiveWaitStart
  | .receiveWait, true, pd, false, d => .receiveWaitFall pd d
  | .receiveWait, false, pd, false, d => .receiveWaitLow pd d
  | .receiveWait, true, false, true, false => .receiveWaitHold0
  | .receiveWait, true, true, true, true => .receiveWaitHold1
  | .acknowledge, false, pd, true, d => .acknowledgeRise pd d
  | .acknowledge, true, false, true, true => .acknowledgeStop
  | .acknowledge, true, true, true, false => .acknowledgeStart
  | .acknowledge, true, pd, false, d => .acknowledgeFall pd d
  | .acknowledge, false, pd, false, d => .acknowledgeLow pd d
  | .acknowledge, true, false, true, false => .acknowledgeHold0
  | .acknowledge, true, true, true, true => .acknowledgeHold1
  | .transmitStart, false, pd, true, d => .transmitStartRise pd d
  | .transmitStart, true, false, true, true => .transmitStartStop
  | .transmitStart, true, true, true, false => .transmitStartStart
  | .transmitStart, true, pd, false, d => .transmitStartFall pd d
  | .transmitStart, false, pd, false, d => .transmitStartLow pd d
  | .transmitStart, true, false, true, false => .transmitStartHold0
  | .transmitStart, true, true, true, true => .transmitStartHold1
  | .transmit, false, pd, true, d => .transmitRise pd d
  | .transmit, true, pd, false, d => .transmitFall pd d
  | .transmit, true, false, true, true => .transmitStop
  | .transmit, true, true, true, false => .transmitStart
  | .transmit, false, pd, false, d => .transmitLow pd d
  | .transmit, true, false, true, false => .transmitHold0
  | .transmit, true, true, true, true => .transmitHold1
  | .transacknowledge, false, pd, true, true => .transacknowledgeRise1 pd
  | .transacknowledge, false, pd, true, false => .transacknowledgeRise0 pd
  | .transacknowledge, true, false, true, true => .transacknowledgeStop
  | .transacknowledge, true, true, true, false => .transacknowledgeStart
  | .transacknowledge, true, pd, false, d => .transacknowledgeFall pd d
  | .transacknowledge, false, pd, false, d => .transacknowledgeLow pd d
  | .transacknowledge, true, false, true, false => .transacknowledgeHold0
  | .transacknowledge, true, true, true, true => .transacknowledgeHold1
  | .transmitWait, true, true, true, false => .transmitWaitStart
  | .transmitWait, true, false, true, true => .transmitWaitStop
  | .transmitWait, false, pd, true, d => .transmitWaitRise pd d
  | .transmitWait, true, pd, false, d => .transmitWaitFall pd d
  | .transmitWait, false, pd, false, d => .transmitWaitLow pd d
  | .transmitWait, true, false, true, false => .transmitWaitHold0
  | .transmitWait, true, true, true, true => .transmitWaitHold1

/-- `HOST` (R67): a 3-bit operation, or the 5-bit `010cd`. -/
def decodeHost (w : Nat) (operands : Beside) : Except DecodeError Instr :=
  match w, operands with
  | 0, .attach ref label => .ok (.create ref label)
  | 1, .none => .ok .destroy
  | 3, .none => .ok .getClockLevel
  | 4, .none => .ok .getDataLevel
  | 5, .none => .ok .getRegistryHandle
  | 8, .none => .ok (.update false false)
  | 9, .none => .ok (.update false true)
  | 10, .none => .ok (.update true false)
  | 11, .none => .ok (.update true true)
  | 6, _ => .error .reservedHostOp
  | 7, _ => .error .reservedHostOp
  | 0, _ => .error .operandsMismatch
  | 1, _ => .error .operandsMismatch
  | 3, _ => .error .operandsMismatch
  | 4, _ => .error .operandsMismatch
  | 5, _ => .error .operandsMismatch
  | 8, _ => .error .operandsMismatch
  | 9, _ => .error .operandsMismatch
  | 10, _ => .error .operandsMismatch
  | 11, _ => .error .operandsMismatch
  | _, _ => .error .malformedHostWord

/-- `CTL` (R68). -/
def decodeCtl (w : Nat) : Except DecodeError Instr :=
  match w with
  | 0 => .ok .consumeByte
  | 1 => .ok .nextByte
  | 2 => .ok .endTransaction
  | _ => .error .reservedCtlCommand

/-- `CBYTE` (R68): the case by the sub-state code and, in sub-state IDLE, by `read_flag`. -/
def decodeCbyte (ts : Nat) (b : Byte) : Except DecodeError Instr :=
  match ts with
  | 0 => .ok (if readFlagOf b then .consumeIdleRd (addressOf b) else .consumeIdleWr (addressOf b))
  | 1 => .ok (.consumeReceiveAddress b)
  | 2 => .ok (.consumeReceiveData b)
  | 3 => .ok (.consumeSendData b)
  | 4 => .ok (.consumeInvalid b)
  | _ => .error .reservedTransferState

/-- `REG` (R69), its operands beside the word. -/
def decodeReg (w : Nat) (operands : Beside) : Except DecodeError Instr :=
  match w, operands with
  | 0, .address a => .ok (.hasDevice a)
  | 1, .address a => .ok (.transactionStart a)
  | 2, .address a => .ok (.transactionEnd a)
  | 3, .address a => .ok (.readByte a)
  | 4, .addressByte a b => .ok (.writeByte a b)
  | 0, _ => .error .operandsMismatch
  | 1, _ => .error .operandsMismatch
  | 2, _ => .error .operandsMismatch
  | 3, _ => .error .operandsMismatch
  | 4, _ => .error .operandsMismatch
  | _, _ => .error .reservedRegistryOp

/-- `ADDR` (R64). -/
def decodeAddr (b : Byte) : Instr :=
  if readFlagOf b then .addrRead (addressOf b) else .addrWrite (addressOf b)

/-- An operation of a format whose words carry all their operands has none beside the word. -/
def withNothingBeside (operands : Beside) (r : Except DecodeError Instr) : Except DecodeError Instr :=
  match operands with
  | .none => r
  | _ => .error .operandsMismatch

/-- The decoder: total on every call, rejecting by name (R60, R72 b). -/
def decode (k : Call) : Except DecodeError Instr :=
  if k.fitsWidth then
    match k.fmt with
    | .upd =>
      withNothingBeside k.beside (.ok (decodeUpd (decoderStateOf (k.word.extractLsb' 4 3))
        (k.word.getLsbD 3) (k.word.getLsbD 2) (k.word.getLsbD 1) (k.word.getLsbD 0)))
    | .host => decodeHost k.word.toNat k.beside
    | .ctl => withNothingBeside k.beside (decodeCtl k.word.toNat)
    | .cbyte =>
      withNothingBeside k.beside (decodeCbyte (k.word.extractLsb' 8 3).toNat (k.word.extractLsb' 0 8))
    | .reg => decodeReg k.word.toNat k.beside
    | .addr => withNothingBeside k.beside (.ok (decodeAddr (k.word.extractLsb' 0 8)))
  else .error .wordTooWide

/-- A `UPD` call. -/
def updCall (w : OpWord) : Call := { fmt := .upd, word := w, beside := .none }

/-- The encoder: each row's fixed bits, with its letters put in their places. -/
def encode : Instr → Call
  | .idleStart => updCall 0b0001110#16
  | .idleLstart => updCall 0b0000110#16
  | .idleRise0 => updCall 0b0000010#16
  | .idleRise1 pd => updCall (0b0000011#16 ||| bitAt 2 pd)
  | .idleStop => updCall 0b0001011#16
  | .idleFall pd d => updCall (0b0001000#16 ||| bitAt 2 pd ||| bitAt 0 d)
  | .idleLow pd d => updCall (0b0000000#16 ||| bitAt 2 pd ||| bitAt 0 d)
  | .idleHold0 => updCall 0b0001010#16
  | .idleHold1 => updCall 0b0001111#16
  | .receiveRise pd d => updCall (0b0010010#16 ||| bitAt 2 pd ||| bitAt 0 d)
  | .receiveStop => updCall 0b0011011#16
  | .receiveStart => updCall 0b0011110#16
  | .receiveFall pd d => updCall (0b0011000#16 ||| bitAt 2 pd ||| bitAt 0 d)
  | .receiveLow pd d => updCall (0b0010000#16 ||| bitAt 2 pd ||| bitAt 0 d)
  | .receiveHold0 => updCall 0b0011010#16
  | .receiveHold1 => updCall 0b0011111#16
  | .receiveWaitRise pd d => updCall (0b0100010#16 ||| bitAt 2 pd ||| bitAt 0 d)
  | .receiveWaitStop => updCall 0b0101011#16
  | .receiveWaitStart => updCall 0b0101110#16
  | .receiveWaitFall pd d => updCall (0b0101000#16 ||| bitAt 2 pd ||| bitAt 0 d)
  | .receiveWaitLow pd d => updCall (0b0100000#16 ||| bitAt 2 pd ||| bitAt 0 d)
  | .receiveWaitHold0 => updCall 0b0101010#16
  | .receiveWaitHold1 => updCall 0b0101111#16
  | .acknowledgeRise pd d => updCall (0b0110010#16 ||| bitAt 2 pd ||| bitAt 0 d)
  | .acknowledgeStop => updCall 0b0111011#16
  | .acknowledgeStart => updCall 0b0111110#16
  | .acknowledgeFall pd d => updCall (0b0111000#16 ||| bitAt 2 pd ||| bitAt 0 d)
  | .acknowledgeLow pd d => updCall (0b0110000#16 ||| bitAt 2 pd ||| bitAt 0 d)
  | .acknowledgeHold0 => updCall 0b0111010#16
  | .acknowledgeHold1 => updCall 0b0111111#16
  | .transmitStartRise pd d => updCall (0b1000010#16 ||| bitAt 2 pd ||| bitAt 0 d)
  | .transmitStartStop => updCall 0b1001011#16
  | .transmitStartStart => updCall 0b1001110#16
  | .transmitStartFall pd d => updCall (0b1001000#16 ||| bitAt 2 pd ||| bitAt 0 d)
  | .transmitStartLow pd d => updCall (0b1000000#16 ||| bitAt 2 pd ||| bitAt 0 d)
  | .transmitStartHold0 => updCall 0b1001010#16
  | .transmitStartHold1 => updCall 0b1001111#16
  | .transmitRise pd d => updCall (0b1010010#16 ||| bitAt 2 pd ||| bitAt 0 d)
  | .transmitFall pd d => updCall (0b1011000#16 ||| bitAt 2 pd ||| bitAt 0 d)
  | .transmitStop => updCall 0b1011011#16
  | .transmitStart => updCall 0b1011110#16
  | .transmitLow pd d => updCall (0b1010000#16 ||| bitAt 2 pd ||| bitAt 0 d)
  | .transmitHold0 => updCall 0b1011010#16
  | .transmitHold1 => updCall 0b1011111#16
  | .transacknowledgeRise1 pd => updCall (0b1100011#16 ||| bitAt 2 pd)
  | .transacknowledgeRise0 pd => updCall (0b1100010#16 ||| bitAt 2 pd)
  | .transacknowledgeStop => updCall 0b1101011#16
  | .transacknowledgeStart => updCall 0b1101110#16
  | .transacknowledgeFall pd d => updCall (0b1101000#16 ||| bitAt 2 pd ||| bitAt 0 d)
  | .transacknowledgeLow pd d => updCall (0b1100000#16 ||| bitAt 2 pd ||| bitAt 0 d)
  | .transacknowledgeHold0 => updCall 0b1101010#16
  | .transacknowledgeHold1 => updCall 0b1101111#16
  | .transmitWaitStart => updCall 0b1111110#16
  | .transmitWaitStop => updCall 0b1111011#16
  | .transmitWaitRise pd d => updCall (0b1110010#16 ||| bitAt 2 pd ||| bitAt 0 d)
  | .transmitWaitFall pd d => updCall (0b1111000#16 ||| bitAt 2 pd ||| bitAt 0 d)
  | .transmitWaitLow pd d => updCall (0b1110000#16 ||| bitAt 2 pd ||| bitAt 0 d)
  | .transmitWaitHold0 => updCall 0b1111010#16
  | .transmitWaitHold1 => updCall 0b1111111#16
  | .create ref label => { fmt := .host, word := 0b000#16, beside := .attach ref label }
  | .destroy => { fmt := .host, word := 0b001#16, beside := .none }
  | .update c d => { fmt := .host, word := 0b01000#16 ||| bitAt 1 c ||| bitAt 0 d, beside := .none }
  | .getClockLevel => { fmt := .host, word := 0b011#16, beside := .none }
  | .getDataLevel => { fmt := .host, word := 0b100#16, beside := .none }
  | .getRegistryHandle => { fmt := .host, word := 0b101#16, beside := .none }
  | .consumeByte => { fmt := .ctl, word := 0b00#16, beside := .none }
  | .nextByte => { fmt := .ctl, word := 0b01#16, beside := .none }
  | .endTransaction => { fmt := .ctl, word := 0b10#16, beside := .none }
  | .consumeIdleWr a => { fmt := .cbyte, word := cbyteWord .idle (addressByte a false), beside := .none }
  | .consumeIdleRd a => { fmt := .cbyte, word := cbyteWord .idle (addressByte a true), beside := .none }
  | .consumeReceiveAddress b => { fmt := .cbyte, word := cbyteWord .receiveAddress b, beside := .none }
  | .consumeReceiveData b => { fmt := .cbyte, word := cbyteWord .receiveData b, beside := .none }
  | .consumeSendData b => { fmt := .cbyte, word := cbyteWord .sendData b, beside := .none }
  | .consumeInvalid b => { fmt := .cbyte, word := cbyteWord .invalid b, beside := .none }
  | .hasDevice a => { fmt := .reg, word := 0b000#16, beside := .address a }
  | .transactionStart a => { fmt := .reg, word := 0b001#16, beside := .address a }
  | .transactionEnd a => { fmt := .reg, word := 0b010#16, beside := .address a }
  | .readByte a => { fmt := .reg, word := 0b011#16, beside := .address a }
  | .writeByte a b => { fmt := .reg, word := 0b100#16, beside := .addressByte a b }
  | .addrWrite a => { fmt := .addr, word := (addressByte a false).setWidth 16, beside := .none }
  | .addrRead a => { fmt := .addr, word := (addressByte a true).setWidth 16, beside := .none }

/-- The format of a table word of `nbits` bits. DESIGN CHOICE (log 3): the words of the formats coincide, so the
length decides, and a one-byte word is a `UPD` word where its bit 7 is 0 and an address byte where it is 1. -/
def tableFormat (nbits w : Nat) : Format :=
  if nbits ≤ 2 then .ctl
  else if nbits ≤ 5 then .host
  else if nbits ≤ 8 then (if w < 128 then .upd else .addr)
  else .cbyte

/-- The operands, zeros, that a table word leaves beside it. -/
def tableBeside (fmt : Format) (w : Nat) : Beside :=
  match fmt, w with
  | .host, 0 => .attach 0 0
  | _, _ => .none

/-- The call of a table word; a word of more than 16 bits becomes one that every format rejects. -/
def tableCall (nbits w : Nat) : Call :=
  { fmt := tableFormat nbits w
    word := if w < 2 ^ 16 then BitVec.ofNat 16 w else BitVec.allOnes 16
    beside := tableBeside (tableFormat nbits w) w }

/-- The operation the decoder reads from a table word. -/
def decodeTableWord (nbits w : Nat) : Option Instr :=
  match decode (tableCall nbits w) with
  | .ok i => some i
  | .error _ => none

end Sys2Proof
end

