-- ==== Sys2Proof/Machine/State.lean ====
section
/-! DEFINITION. The state of one Bus Endpoint (10_state.md R10 to R31), of the registry it is attached to
(45_registry_interface.md R210), the records a model keeps (20_memory.md R50, 60_exceptions.md R220), and the reasons a
step can stop. -/

namespace Sys2Proof.Machine

/-- Whether the endpoint exists: it is live from `create` to `destroy` (R31, R191, R192). -/
inductive Life where
  | live | destroyed
  deriving DecidableEq, Repr

/-- One device of a declared registry, `DEV a : b0 b1 ...` (30_encoding.md R70): the bytes its coming `read_byte` calls
return, the next one first. -/
structure Device where
  addr : Addr
  bytes : List Byte
  deriving DecidableEq, Repr

/-- Who answers for the devices: an open registry (R210, D25), whose answers are free values, or a declared one (R70),
whose undeclared addresses are absent. -/
inductive Devices where
  | opened
  | declared (ds : List Device)
  deriving DecidableEq, Repr

/-- The registry's state, the `Reg` of R210. `world` names the state of all of it that is not declared; only the free
functions of Config read it. -/
structure Registry where
  devices : Devices
  world : Nat
  deriving DecidableEq, Repr

/-- A registry call with its arguments and its result (R50, R205 to R209). -/
inductive RegistryCall where
  | hasDevice (a : Addr) (present : Bool)
  | transactionStart (a : Addr)
  | transactionEnd (a : Addr)
  | readByte (a : Addr) (b : Byte)
  | writeByte (a : Addr) (b : Byte)
  deriving DecidableEq, Repr

/-- The three anomalies and their recorded values (R220). -/
inductive Anomaly where
  /-- Code 1 (R221): the address looked up. -/
  | unaddressedDevice (a : Addr)
  /-- Code 2 (R222). -/
  | nakEnd
  /-- Code 3 (R223): the `UPD` cell. -/
  | ignoredTransition (st : DecoderState) (cls : EventClass)
  deriving DecidableEq, Repr

/-- What an operation returns to whoever presented it (R190, R205, R208). -/
inductive Reply where
  | nothing
  | level (v : Level)
  | handle (h : Handle)
  | present (v : Bool)
  | byte (b : Byte)
  deriving DecidableEq, Repr

/-- No step faults: "Nothing in this hardware is treated as `fault` or `stuck`" (93_implementation_defined.md, U17;
60_exceptions.md R220). The type has no constructor, so no `fault` outcome can be built. -/
inductive Fault
  deriving DecidableEq, Repr

/-- Why a step has no next state. Each is one the spec itself gives to a model ("refuse", 93_implementation_defined.md),
but for the first. -/
inductive Refusal where
  /-- An instruction the model gives no meaning, raised by `exec` alone. Safe: the model stops where the hardware goes
  on. No arm of `exec` raises it. -/
  | notModelled (mnemonic : String)
  /-- Raised by `step`: the presented call does not decode (R72 b, U2). Safe: the spec says these codes are never
  produced. -/
  | undecodable (e : DecodeError)
  /-- Raised by a `UPD`, `CBYTE` or `ADDR` operation in a state that does not select it (R66, R68, R64; log 9). Safe:
  the hardware never runs an unselected cell. -/
  | cellNotSelected
  /-- Raised by a RISE in RECEIVE, RECEIVE_WAIT, TRANSMIT_START or TRANSMIT with `bit_position = 8` (R72 c, D32, U1).
  Safe: "the rules give it no meaning and a model refuses it". -/
  | riseAtByteBoundary
  /-- Raised by every operation but CREATE on a destroyed endpoint (R192, D29, U13). Safe: "no later operation on it
  has a meaning, and a model refuses one". -/
  | endpointDestroyed
  deriving DecidableEq, Repr

/-- The whole state. The ten fields of R10 come first. -/
structure State where
  /-- R11: the clock level of the most recent `update`. -/
  clockLevel : Level
  /-- R12: the endpoint's own data-line output. -/
  dataLevel : Level
  /-- R13: the data level the external driver presented on the previous call. -/
  lastDataLevel : Level
  /-- R19 -/
  decoderState : DecoderState
  /-- R20 -/
  transferState : TransferState
  /-- R16: `none` is `NONE`, "no transaction"; `some a` is `Addr(a)`. -/
  currentAddress : Option Addr
  /-- R17 -/
  direction : Direction
  /-- R18 -/
  driveRole : DriveRole
  /-- R15 -/
  bitPosition : BitCount
  /-- R14 -/
  shiftByte : Byte
  /-- R21: the registry reference given to `create`. -/
  registryRef : Handle
  /-- R21: the inert bus name given to `create`. -/
  busLabel : Label
  /-- R31: from `create` to `destroy`. -/
  life : Life
  /-- The attached registry's state (R210). -/
  registry : Registry
  /-- The event history (R50), oldest call first. -/
  history : List RegistryCall
  /-- The anomalies recorded (R220), oldest first. -/
  trace : List Anomaly
  /-- The operations presented and not yet run, the next one first (R70). The model's own field (log 1). -/
  pending : List Call
  /-- What the last operation returned. The model's own field (log 7). -/
  reply : Reply
  deriving DecidableEq, Repr

/-- The state right after `create` (R30, R250). The values not in R30's table are named in log entries 1, 2, 4, 6, 7
and 8. -/
def State.reset : State where
  clockLevel := true
  dataLevel := true
  lastDataLevel := true
  decoderState := .idle
  transferState := .idle
  currentAddress := none
  direction := .write
  driveRole := .txMaster
  bitPosition := 0
  shiftByte := 0x00#8
  registryRef := 0
  busLabel := 0
  life := .live
  registry := { devices := .opened, world := 0 }
  history := []
  trace := []
  pending := []
  reply := .nothing

end Sys2Proof.Machine
end

