-- ==== Sys2Proof/Machine/Flags.lean ====
section
/-! DEFINITION. The edge detector and the START/STOP recognizer (40_update.md R81 to R85, 00_scope.md R8,
30_encoding.md R61), and the codes of the anomalies. `pc`, `pd` are `clock_level` and `last_data_level` on entry, `c`,
`d` the call's arguments. -/

namespace Sys2Proof.Machine

/-- Rising clock edge (R81). -/
def rise (pc c : Level) : Bool := !pc && c

/-- Falling clock edge (R81). -/
def fall (pc c : Level) : Bool := pc && !c

/-- The clock stays high (R8). -/
def high (pc c : Level) : Bool := pc && c

/-- The clock stays low (R8). -/
def low (pc c : Level) : Bool := !pc && !c

/-- Start condition (R82). -/
def startCondition (pc pd c d : Level) : Bool := high pc c && pd && !d

/-- Stop condition (R83). -/
def stopCondition (pc pd c d : Level) : Bool := high pc c && !pd && d

/-- The start test of decoder IDLE (R101, D8): with the loose switch it "does not look at the previous clock level". -/
def idleStartCondition (p : Config.Switches) (pc pd c d : Level) : Bool :=
  if p.idleLooseStart then c && pd && !d else startCondition pc pd c d

/-- The class of an event word (R61). -/
def classify (pc pd c d : Level) : EventClass :=
  if low pc c then .low
  else if rise pc c then (if d then .rise1 else .rise0)
  else if fall pc c then .fall
  else if startCondition pc pd c d then .start
  else if stopCondition pc pd c d then .stop
  else .hold

/-- The anomaly codes (R220, D31). -/
def anomalyCode : Anomaly → Nat
  | .unaddressedDevice _ => 1
  | .nakEnd => 2
  | .ignoredTransition _ _ => 3

end Sys2Proof.Machine
end

