-- ==== Sys2Proof/Machine/Operands.lean ====
section
/-! DEFINITION. Operand forms: the shift register (40_update.md R93), the byte of a call assembled from bits
(30_encoding.md R73), and the boundary seen as hardware ports (44_host_interface.md R199). -/

namespace Sys2Proof.Machine

/-- `{shift_byte[6:0], b}` (R93 a): the old bit 7 is discarded. -/
def shiftIn (v : Byte) (b : Level) : Byte := (v.extractLsb' 0 7).concat b

/-- `shift_byte[7]`, the next outgoing bit (R133). -/
def outgoingBit (v : Byte) : Level := v.getLsbD 7

/-- A received byte, assembled from its samples, the first in bit 7 (R73 a, R42). -/
def assembleByte (samples : List Level) : Byte := samples.foldl shiftIn 0x00#8

/-- The eight levels a transmitted byte is driven as: the k-th is `b[8 - k]` (R73 b, R42). -/
def disassembleByte (b : Byte) : List Level :=
  [b.getLsbD 7, b.getLsbD 6, b.getLsbD 5, b.getLsbD 4, b.getLsbD 3, b.getLsbD 2, b.getLsbD 1, b.getLsbD 0]

/-- Port `scl_out` (R199): `clock_level`. -/
def sclOut (s : State) : Level := s.clockLevel

/-- Port `sda_out` (R199): `data_level`. -/
def sdaOut (s : State) : Level := s.dataLevel

/-- Port `reg_op` of a registry call (R69, R199). -/
def regOp : RegistryCall → BitVec 3
  | .hasDevice .. => 0
  | .transactionStart .. => 1
  | .transactionEnd .. => 2
  | .readByte .. => 3
  | .writeByte .. => 4

/-- Port `reg_addr` of a registry call (R199). -/
def regAddr : RegistryCall → Addr
  | .hasDevice a _ => a
  | .transactionStart a => a
  | .transactionEnd a => a
  | .readByte a _ => a
  | .writeByte a _ => a

/-- Port `reg_wdata` of a registry call (R199): only `WRITE_BYTE` carries a byte (R69). -/
def regWdata : RegistryCall → Option Byte
  | .writeByte _ b => some b
  | _ => none

end Sys2Proof.Machine
end

