-- ==== Sys2Proof/Machine/Ops.lean ====
section
/-! DEFINITION. The shared operations: the registry (45_registry_interface.md), its calls as the endpoint makes them, the
recording of an anomaly (60_exceptions.md R220, all there is of taking an exception: R227), the Transfer Controller's
commands (43_transfer_controller.md), and the parts common to every `update` cell (40_update.md R86 to R89). -/

namespace Sys2Proof.Machine

/-- The outcome of a meaning. -/
abbrev Result := Host.Outcome State Fault Refusal

/-! ### The registry -/

/-- The declared device at an address. -/
def findDevice (ds : List Device) (a : Addr) : Option Device := ds.find? (fun v => v.addr == a)

/-- The byte a declared device gives next; "when the list is exhausted it returns 0xFF" (R70). -/
def nextDeviceByte (v : Device) : Byte := v.bytes.headD 0xFF#8

/-- The declared devices after a `read_byte` of one of them. -/
def afterDeviceRead (ds : List Device) (a : Addr) : List Device :=
  ds.map fun v => if v.addr = a then { v with bytes := v.bytes.tail } else v

/-- `has_device` (R205): free of side effects; an address not declared is absent (R70). -/
def Registry.has (r : Registry) (a : Addr) : Bool :=
  match r.devices with
  | .opened => Config.registryHas r.world a
  | .declared ds => (findDevice ds a).isSome

/-- The byte `read_byte` returns (R208). What a declared registry returns for an absent address is a free value. -/
def Registry.byte (r : Registry) (a : Addr) : Byte :=
  match r.devices with
  | .opened => Config.registryByte r.world a
  | .declared ds =>
    match findDevice ds a with
    | some v => nextDeviceByte v
    | none => Config.registryByte r.world a

/-- The registry after `read_byte` (R208, R45: it may change device state). -/
def Registry.afterRead (r : Registry) (a : Addr) : Registry :=
  match r.devices with
  | .opened => { r with world := Config.registryAfterRead r.world a }
  | .declared ds => { devices := .declared (afterDeviceRead ds a), world := Config.registryAfterRead r.world a }

/-- The registry after `transaction_start` (R206). -/
def Registry.afterStart (r : Registry) (a : Addr) : Registry :=
  { r with world := Config.registryAfterStart r.world a }

/-- The registry after `transaction_end` (R207). -/
def Registry.afterEnd (r : Registry) (a : Addr) : Registry :=
  { r with world := Config.registryAfterEnd r.world a }

/-- The registry after `write_byte` (R209). -/
def Registry.afterWrite (r : Registry) (a : Addr) (b : Byte) : Registry :=
  { r with world := Config.registryAfterWrite r.world a b }

/-- The declared addresses strictly rise: the one canonical form of a declared registry (log 17). -/
def risingAddresses : List Device → Bool
  | [] => true
  | [_] => true
  | v :: w :: rest => decide (v.addr.toNat < w.addr.toNat) && risingAddresses (w :: rest)

/-- A registry in canonical form. -/
def Registry.wf (r : Registry) : Bool :=
  match r.devices with
  | .opened => true
  | .declared ds => risingAddresses ds

/-! ### Registry calls as the endpoint makes them, each recorded (R48, R50) -/

/-- `RegHas(a)` (R205). -/
def callHas (a : Addr) (s : State) : State :=
  { s with history := s.history ++ [.hasDevice a (s.registry.has a)] }

/-- `RegStart(a)` (R206). -/
def callStart (a : Addr) (s : State) : State :=
  { s with registry := s.registry.afterStart a, history := s.history ++ [.transactionStart a] }

/-- `RegEnd(a)` (R207). -/
def callEnd (a : Addr) (s : State) : State :=
  { s with registry := s.registry.afterEnd a, history := s.history ++ [.transactionEnd a] }

/-- `MemRead(a, 1)` (R208), all but where the byte goes. -/
def callRead (a : Addr) (s : State) : State :=
  { s with registry := s.registry.afterRead a, history := s.history ++ [.readByte a (s.registry.byte a)] }

/-- `MemWrite(a, 1, b)` (R209). -/
def callWrite (a : Addr) (b : Byte) (s : State) : State :=
  { s with registry := s.registry.afterWrite a b, history := s.history ++ [.writeByte a b] }

/-- `raise X(info)` (R7, R220): "It never stops the machine and is never shown to the caller". -/
def raiseAnomaly (x : Anomaly) (s : State) : State := { s with trace := s.trace ++ [x] }

/-! ### The Transfer Controller (R160 to R176) -/

/-- `shift_byte <- MemRead(a, 1)` (R165, R172). -/
def loadByte (a : Addr) (s : State) : State := { callRead a s with shiftByte := s.registry.byte a }

/-- R163: the address matcher misses. -/
def addressMiss (a : Addr) (s : State) : State :=
  raiseAnomaly (.unaddressedDevice a) { s with transferState := .invalid, direction := .write, driveRole := .txMaster }

/-- R164, first two steps: `transaction_start` "if and only if no transaction is open", then the address. -/
def openTransaction (a : Addr) (s : State) : State :=
  match s.currentAddress with
  | none => { callStart a s with currentAddress := some a }
  | some _ => { s with currentAddress := some a }

/-- R164, the write path. -/
def writePath (s : State) : State :=
  { s with transferState := .receiveAddress, direction := .write, driveRole := .txMaster }

/-- R165, the read path. -/
def readPath (a : Addr) (s : State) : State :=
  loadByte a { s with transferState := .sendData, direction := .read, driveRole := .txSlave }

/-- R162 to R165: an address byte, decoded. -/
def consumeAddress (a : Addr) (readFlag : Bool) (s : State) : State :=
  if s.registry.has a then
    if readFlag then readPath a (openTransaction a (callHas a s)) else writePath (openTransaction a (callHas a s))
  else addressMiss a (callHas a s)

/-- `MemWrite(A, 1, byte)` with `current_address = Addr(A)` (R166, R167). With no address assigned, which no reachable
state has (R26 I-i), there is "no value to pass" and no call is made. DEDUCED from D22 (log 11). -/
def forwardByte (b : Byte) (s : State) : State :=
  match s.currentAddress with
  | some a => callWrite a b s
  | none => s

/-- R166: the first data byte of a write. -/
def consumeFirstData (b : Byte) (s : State) : State :=
  let t := forwardByte b s
  { t with transferState := (match s.direction with | .read => .sendData | .write => .receiveData) }

/-- `consume_byte()` (R161): the case by `transfer_state`, the byte in `shift_byte`. -/
def consumeByte (s : State) : State :=
  match s.transferState with
  | .idle => consumeAddress (addressOf s.shiftByte) (readFlagOf s.shiftByte) s
  | .receiveAddress => consumeFirstData s.shiftByte s
  | .receiveData => forwardByte s.shiftByte s
  | .sendData => s
  | .invalid => s

/-- `next_byte()` (R172); with no transaction open, nothing (D22). -/
def nextByte (s : State) : State :=
  match s.currentAddress with
  | some a => loadByte a s
  | none => s

/-- `if current_address = Addr(A): RegEnd(A)` (R175). -/
def endIfOpen (s : State) : State :=
  match s.currentAddress with
  | some a => callEnd a s
  | none => s

/-- `end_transaction()` (R175). -/
def endTransaction (s : State) : State :=
  { endIfOpen s with
    currentAddress := none, transferState := .idle, direction := .write, driveRole := .txMaster }

/-! ### The parts common to the cells of `update` -/

/-- An operation that returns nothing. -/
def returnNothing (s : State) : State := { s with reply := .nothing }

/-- An operation of an endpoint that exists (R192, D29). -/
def whenLive (s : State) (k : Result) : Result :=
  match s.life with
  | .live => k
  | .destroyed => .refused .endpointDestroyed

/-- A `UPD` cell runs where the state selects it (R66): the decoder state and the two entry levels are the word's. -/
def atCell (st : DecoderState) (pc pd : Level) (s : State) (k : Result) : Result :=
  whenLive s
    (if s.decoderState = st ∧ s.clockLevel = pc ∧ s.lastDataLevel = pd then k else .refused .cellNotSelected)

/-- The epilogue (R88); `out` is the latch value of R87. -/
def epilogue (pc c d out : Level) (s : State) : State :=
  { s with
    dataLevel := if rise pc c then out else s.dataLevel
    lastDataLevel := d
    clockLevel := c
    reply := .nothing }

/-- The early return (R89): the latch is skipped. -/
def earlyReturn (c d : Level) (s : State) : State :=
  { s with clockLevel := c, lastDataLevel := d, reply := .nothing }

/-- R72 (c), D32: a RISE with `bit_position = 8` has no meaning in a state that counts bits. -/
def belowEight (s : State) (k : Result) : Result :=
  if s.bitPosition = 8 then .refused .riseAtByteBoundary else k

/-- A cell without a state-specific action: the epilogue alone (R66, R84). -/
def quietCell (st : DecoderState) (pc pd c d : Level) (s : State) : Result :=
  atCell st pc pd s (.next (epilogue pc c d d s))

/-- A start or stop in a state that has no action for it (R223): recorded, then the epilogue. -/
def ignoredCell (st : DecoderState) (cls : EventClass) (pd d : Level) (s : State) : Result :=
  atCell st true pd s (.next (epilogue true true d d (raiseAnomaly (.ignoredTransition st cls) s)))

/-- The action of a stop (R83): `end_transaction() ; decoder_state <- IDLE`. -/
def stopAction (s : State) : State := { endTransaction s with decoderState := .idle }

/-- The stop of ACKNOWLEDGE, TRANSMIT and TRANSACKNOWLEDGE (R83, D9), under the switch; with it off "ACKNOWLEDGE,
TRANSMIT and TRANSACKNOWLEDGE ignore it". -/
def stopUnderSwitch (p : Config.Switches) (st : DecoderState) (s : State) : State :=
  if p.stopAllStates then stopAction s else raiseAnomaly (.ignoredTransition st .stop) s

/-- A stop cell of a state whose stop the source names (RECEIVE, RECEIVE_WAIT, TRANSMIT_START, TRANSMIT_WAIT). -/
def stopCell (st : DecoderState) (s : State) : Result :=
  atCell st true false s (.next (epilogue true true true true (stopAction s)))

/-- A stop cell that decision D9 adds. -/
def addedStopCell (p : Config.Switches) (st : DecoderState) (s : State) : Result :=
  atCell st true false s (.next (epilogue true true true true (stopUnderSwitch p st s)))

/-- R101: a start accepted in IDLE. -/
def openReception (s : State) : State := { s with decoderState := .receive, bitPosition := 0 }

/-- R106: sample one bit; R104: the state is RECEIVE from here on. -/
def sampleBit (d : Level) (s : State) : State :=
  { s with decoderState := .receive, shiftByte := shiftIn s.shiftByte d, bitPosition := s.bitPosition + 1 }

/-- R107: at eight bits, `consume_byte() ; decoder_state <- ACKNOWLEDGE`. -/
def byteBoundary (s : State) : State :=
  if s.bitPosition = 8 then { consumeByte s with decoderState := .acknowledge } else s

/-- RECEIVE.RISE and RECEIVE_WAIT.RISE, one body (R104, R106, R107). -/
def sampleCell (st : DecoderState) (pd d : Level) (s : State) : Result :=
  atCell st false pd s (belowEight s (.next (epilogue false true d d (byteBoundary (sampleBit d s)))))

/-- The repeated start (R109). -/
def repeatedStart (s : State) : State := { s with bitPosition := 0, transferState := .idle }

/-- RECEIVE.START and RECEIVE_WAIT.START, one body (R105, R109). -/
def repeatedStartCell (st : DecoderState) (s : State) : Result :=
  atCell st true true s (.next (epilogue true true false false (repeatedStart s)))

/-- R112: reset the bit count and hand over by `drive_role`; the driven 0 is the epilogue's `out`. -/
def handOver (s : State) : State :=
  { s with
    bitPosition := 0
    decoderState := (match s.driveRole with | .txMaster => .receiveWait | .txSlave => .transmit) }

/-- R133: drive one bit; R131: the state is TRANSMIT from here on. -/
def driveBit (s : State) : State :=
  { s with
    decoderState := .transmit
    dataLevel := outgoingBit s.shiftByte
    shiftByte := shiftIn s.shiftByte false
    bitPosition := s.bitPosition + 1 }

/-- TRANSMIT.RISE and TRANSMIT_START.RISE, one body with the early return (R89, R131, R133). -/
def driveCell (st : DecoderState) (pd d : Level) (s : State) : Result :=
  atCell st false pd s (belowEight s (.next (earlyReturn true d (driveBit s))))

/-- R134: `if bit_position = 8: decoder_state <- TRANSACKNOWLEDGE`. -/
def toAcknowledgeAtEight (s : State) : State :=
  if s.bitPosition = 8 then { s with decoderState := .transacknowledge } else s

/-- TRANSMIT.FALL and TRANSMIT_START.FALL, one body (R134, R138). -/
def fallCell (st : DecoderState) (pd d : Level) (s : State) : Result :=
  atCell st true pd s (.next (epilogue true false d d (toAcknowledgeAtEight s)))

/-- R141, R146: `next_byte() ; bit_position <- 0`. -/
def fetchNext (s : State) : State := { nextByte s with bitPosition := 0 }

/-- A `CBYTE` case or an address byte is what the state selects (R68, R64): the sub-state and `shift_byte` are the
word's. -/
def atByte (ts : TransferState) (b : Byte) (s : State) (k : Result) : Result :=
  whenLive s (if s.transferState = ts ∧ s.shiftByte = b then k else .refused .cellNotSelected)

end Sys2Proof.Machine
end

