-- ==== Sys2Proof/Machine/Acknowledge.lean ====
section
/-! DEFINITION. Decoder ACKNOWLEDGE: the acknowledge of a received byte (41_decoder_receive.md R111 to R115). -/

namespace Sys2Proof.Machine

/-- `ACKNOWLEDGE.RISE` (R112): `out` is 0 whatever `d` is (R87). -/
def execAcknowledgeRise (pd d : Level) (s : State) : Result :=
  atCell .acknowledge false pd s (.next (epilogue false true d false (handOver s)))

/-- `ACKNOWLEDGE.STOP` (R113). -/
def execAcknowledgeStop (s : State) : Result := addedStopCell Config.switches .acknowledge s

/-- `ACKNOWLEDGE.START` (R114, R223): ignored. -/
def execAcknowledgeStart (s : State) : Result := ignoredCell .acknowledge .start true false s

/-- `ACKNOWLEDGE.FALL` (R114). -/
def execAcknowledgeFall (pd d : Level) (s : State) : Result := quietCell .acknowledge true pd false d s

/-- `ACKNOWLEDGE.LOW` (R114). -/
def execAcknowledgeLow (pd d : Level) (s : State) : Result := quietCell .acknowledge false pd false d s

/-- `ACKNOWLEDGE.HOLD0` (R114). -/
def execAcknowledgeHold0 (s : State) : Result := quietCell .acknowledge true false true false s

/-- `ACKNOWLEDGE.HOLD1` (R114). -/
def execAcknowledgeHold1 (s : State) : Result := quietCell .acknowledge true true true true s

end Sys2Proof.Machine
end

