-- ==== Sys2Proof/Machine/Idle.lean ====
section
/-! DEFINITION. Decoder IDLE: the nine cells `IDLE.*` (41_decoder_receive.md R101, R102). -/

namespace Sys2Proof.Machine

/-- `IDLE.START` (R101): a start opens reception; no registry call, no bit sampled. -/
def execIdleStart (s : State) : Result :=
  atCell .idle true true s (.next (epilogue true true false false (openReception s)))

/-- IDLE's loose start (R101, D8): with the switch off the call is a plain `RISE0`. -/
def looseStart (p : Config.Switches) (s : State) : State :=
  if idleStartCondition p false true true false then openReception s else s

/-- `IDLE.LSTART` (R101): the clock rises and data falls in one call; the epilogue latches `data_level <- 0`. -/
def execIdleLstart (s : State) : Result :=
  atCell .idle false true s (.next (epilogue false true false false (looseStart Config.switches s)))

/-- `IDLE.RISE0` (R102): previous data low, so no start. -/
def execIdleRise0 (s : State) : Result := quietCell .idle false false true false s

/-- `IDLE.RISE1` (R102). -/
def execIdleRise1 (pd : Level) (s : State) : Result := quietCell .idle false pd true true s

/-- `IDLE.STOP` (R102, R223): ignored, no `end_transaction`. -/
def execIdleStop (s : State) : Result := ignoredCell .idle .stop false true s

/-- `IDLE.FALL` (R102). -/
def execIdleFall (pd d : Level) (s : State) : Result := quietCell .idle true pd false d s

/-- `IDLE.LOW` (R102). -/
def execIdleLow (pd d : Level) (s : State) : Result := quietCell .idle false pd false d s

/-- `IDLE.HOLD0` (R102). -/
def execIdleHold0 (s : State) : Result := quietCell .idle true false true false s

/-- `IDLE.HOLD1` (R102). -/
def execIdleHold1 (s : State) : Result := quietCell .idle true true true true s

end Sys2Proof.Machine
end

