-- ==== Sys2Proof/Machine/Receive.lean ====
section
/-! DEFINITION. Decoder RECEIVE and RECEIVE_WAIT: the bit sampler and the byte assembler (41_decoder_receive.md R103 to R110). -/

namespace Sys2Proof.Machine

/-- `RECEIVE.RISE` (R106, R107). -/
def execReceiveRise (pd d : Level) (s : State) : Result := sampleCell .receive pd d s

/-- `RECEIVE.STOP` (R108). -/
def execReceiveStop (s : State) : Result := stopCell .receive s

/-- `RECEIVE.START` (R109). -/
def execReceiveStart (s : State) : Result := repeatedStartCell .receive s

/-- `RECEIVE.FALL` (R110). -/
def execReceiveFall (pd d : Level) (s : State) : Result := quietCell .receive true pd false d s

/-- `RECEIVE.LOW` (R110). -/
def execReceiveLow (pd d : Level) (s : State) : Result := quietCell .receive false pd false d s

/-- `RECEIVE.HOLD0` (R110). -/
def execReceiveHold0 (s : State) : Result := quietCell .receive true false true false s

/-- `RECEIVE.HOLD1` (R110). -/
def execReceiveHold1 (s : State) : Result := quietCell .receive true true true true s

/-- `RECEIVE_WAIT.RISE` (R104). -/
def execReceiveWaitRise (pd d : Level) (s : State) : Result := sampleCell .receiveWait pd d s

/-- `RECEIVE_WAIT.STOP` (R105, as R108). -/
def execReceiveWaitStop (s : State) : Result := stopCell .receiveWait s

/-- `RECEIVE_WAIT.START` (R105, as R109; the state stays RECEIVE_WAIT). -/
def execReceiveWaitStart (s : State) : Result := repeatedStartCell .receiveWait s

/-- `RECEIVE_WAIT.FALL` (R105). -/
def execReceiveWaitFall (pd d : Level) (s : State) : Result := quietCell .receiveWait true pd false d s

/-- `RECEIVE_WAIT.LOW` (R105). -/
def execReceiveWaitLow (pd d : Level) (s : State) : Result := quietCell .receiveWait false pd false d s

/-- `RECEIVE_WAIT.HOLD0` (R105). -/
def execReceiveWaitHold0 (s : State) : Result := quietCell .receiveWait true false true false s

/-- `RECEIVE_WAIT.HOLD1` (R105). -/
def execReceiveWaitHold1 (s : State) : Result := quietCell .receiveWait true true true true s

end Sys2Proof.Machine
end

