-- ==== Sys2Proof/Machine/Transmit.lean ====
section
/-! DEFINITION. Decoder TRANSMIT_START, TRANSMIT, TRANSACKNOWLEDGE and TRANSMIT_WAIT (42_decoder_transmit.md R130 to R149). -/

namespace Sys2Proof.Machine

/-- `TRANSMIT_START.RISE` (R131). -/
def execTransmitStartRise (pd d : Level) (s : State) : Result := driveCell .transmitStart pd d s

/-- `TRANSMIT_START.STOP` (R132). -/
def execTransmitStartStop (s : State) : Result := stopCell .transmitStart s

/-- `TRANSMIT_START.START` (R136, R223): ignored. -/
def execTransmitStartStart (s : State) : Result := ignoredCell .transmitStart .start true false s

/-- `TRANSMIT_START.FALL` (R138, R66): the shared body moves to TRANSACKNOWLEDGE only at 8. -/
def execTransmitStartFall (pd d : Level) (s : State) : Result := fallCell .transmitStart pd d s

/-- `TRANSMIT_START.LOW` (R138). -/
def execTransmitStartLow (pd d : Level) (s : State) : Result := quietCell .transmitStart false pd false d s

/-- `TRANSMIT_START.HOLD0` (R138). -/
def execTransmitStartHold0 (s : State) : Result := quietCell .transmitStart true false true false s

/-- `TRANSMIT_START.HOLD1` (R138). -/
def execTransmitStartHold1 (s : State) : Result := quietCell .transmitStart true true true true s

/-- `TRANSMIT.RISE` (R133). -/
def execTransmitRise (pd d : Level) (s : State) : Result := driveCell .transmit pd d s

/-- `TRANSMIT.FALL` (R134, R137). -/
def execTransmitFall (pd d : Level) (s : State) : Result := fallCell .transmit pd d s

/-- `TRANSMIT.STOP` (R135). -/
def execTransmitStop (s : State) : Result := addedStopCell Config.switches .transmit s

/-- `TRANSMIT.START` (R136, R223): ignored. -/
def execTransmitStart (s : State) : Result := ignoredCell .transmit .start true false s

/-- `TRANSMIT.LOW` (R137). -/
def execTransmitLow (pd d : Level) (s : State) : Result := quietCell .transmit false pd false d s

/-- `TRANSMIT.HOLD0` (R137). -/
def execTransmitHold0 (s : State) : Result := quietCell .transmit true false true false s

/-- `TRANSMIT.HOLD1` (R137). -/
def execTransmitHold1 (s : State) : Result := quietCell .transmit true true true true s

/-- `TRANSACKNOWLEDGE.RISE1` (R140, R222): not acknowledged, records NAK_END. -/
def execTransacknowledgeRise1 (pd : Level) (s : State) : Result :=
  atCell .transacknowledge false pd s
    (.next (epilogue false true true true (stopAction (raiseAnomaly .nakEnd s))))

/-- `TRANSACKNOWLEDGE.RISE0` (R141): acknowledged. -/
def execTransacknowledgeRise0 (pd : Level) (s : State) : Result :=
  atCell .transacknowledge false pd s
    (.next (epilogue false true false false { fetchNext s with decoderState := .transmitStart }))

/-- `TRANSACKNOWLEDGE.STOP` (R142): unreachable, kept. -/
def execTransacknowledgeStop (s : State) : Result := addedStopCell Config.switches .transacknowledge s

/-- `TRANSACKNOWLEDGE.START` (R136, R223): unreachable, ignored. -/
def execTransacknowledgeStart (s : State) : Result := ignoredCell .transacknowledge .start true false s

/-- `TRANSACKNOWLEDGE.FALL` (R143). -/
def execTransacknowledgeFall (pd d : Level) (s : State) : Result := quietCell .transacknowledge true pd false d s

/-- `TRANSACKNOWLEDGE.LOW` (R143). -/
def execTransacknowledgeLow (pd d : Level) (s : State) : Result := quietCell .transacknowledge false pd false d s

/-- `TRANSACKNOWLEDGE.HOLD0` (R143). -/
def execTransacknowledgeHold0 (s : State) : Result := quietCell .transacknowledge true false true false s

/-- `TRANSACKNOWLEDGE.HOLD1` (R143). -/
def execTransacknowledgeHold1 (s : State) : Result := quietCell .transacknowledge true true true true s

/-- `TRANSMIT_WAIT.START` (R146): the state stays TRANSMIT_WAIT. -/
def execTransmitWaitStart (s : State) : Result :=
  atCell .transmitWait true true s (.next (epilogue true true false false (fetchNext s)))

/-- `TRANSMIT_WAIT.STOP` (R147). -/
def execTransmitWaitStop (s : State) : Result := stopCell .transmitWait s

/-- `TRANSMIT_WAIT.RISE` (R148): the epilogue alone, `data_level <- d`. -/
def execTransmitWaitRise (pd d : Level) (s : State) : Result := quietCell .transmitWait false pd true d s

/-- `TRANSMIT_WAIT.FALL` (R148). -/
def execTransmitWaitFall (pd d : Level) (s : State) : Result := quietCell .transmitWait true pd false d s

/-- `TRANSMIT_WAIT.LOW` (R148). -/
def execTransmitWaitLow (pd d : Level) (s : State) : Result := quietCell .transmitWait false pd false d s

/-- `TRANSMIT_WAIT.HOLD0` (R148). -/
def execTransmitWaitHold0 (s : State) : Result := quietCell .transmitWait true false true false s

/-- `TRANSMIT_WAIT.HOLD1` (R148). -/
def execTransmitWaitHold1 (s : State) : Result := quietCell .transmitWait true true true true s

end Sys2Proof.Machine
end

