-- ==== Sys2Proof/Machine/HostBoundary.lean ====
section
/-! DEFINITION. The endpoint's own boundary: format HOST (44_host_interface.md R190 to R198), and the dispatch of
`update` (40_update.md R86). -/

namespace Sys2Proof.Machine

/-- The endpoint `create(registry_ref, bus_name)` makes (R191, R30): every field of the endpoint at its reset value,
the reference and the name recorded, no registry call made, and the records of calls and anomalies, which are kept per
endpoint, empty (log 6). The registry and the operations still presented are not the endpoint's and stay. -/
def freshEndpoint (ref : Handle) (label : Label) (s : State) : State :=
  { State.reset with registryRef := ref, busLabel := label, registry := s.registry, pending := s.pending }

/-- `CREATE` (R191, R250); on a live endpoint too it gives a fresh one (log 8). -/
def execCreate (ref : Handle) (label : Label) (s : State) : Result := .next (freshEndpoint ref label s)

/-- `DESTROY` (R192): the endpoint ceases to exist; no registry call, an open transaction included. -/
def execDestroy (s : State) : Result := whenLive s (.next (returnNothing { s with life := .destroyed }))

/-- `GET_CLOCK_LEVEL` (R196). -/
def execGetClockLevel (s : State) : Result := whenLive s (.next { s with reply := .level s.clockLevel })

/-- `GET_DATA_LEVEL` (R197): as stored, in every decoder state (D24). -/
def execGetDataLevel (s : State) : Result := whenLive s (.next { s with reply := .level s.dataLevel })

/-- `GET_REGISTRY_HANDLE` (R198). -/
def execGetRegistryHandle (s : State) : Result := whenLive s (.next { s with reply := .handle s.registryRef })

/-- The handler of decoder IDLE (R92): one cell per event word. -/
def updateIdle (pc pd c d : Level) (s : State) : Result :=
  match classify pc pd c d with
  | .low => execIdleLow pd d s
  | .rise0 => if pd then execIdleLstart s else execIdleRise0 s
  | .rise1 => execIdleRise1 pd s
  | .fall => execIdleFall pd d s
  | .hold => if d then execIdleHold1 s else execIdleHold0 s
  | .start => execIdleStart s
  | .stop => execIdleStop s

/-- The handler of decoder RECEIVE (R92): one cell per event word. -/
def updateReceive (pc pd c d : Level) (s : State) : Result :=
  match classify pc pd c d with
  | .low => execReceiveLow pd d s
  | .rise0 => execReceiveRise pd d s
  | .rise1 => execReceiveRise pd d s
  | .fall => execReceiveFall pd d s
  | .hold => if d then execReceiveHold1 s else execReceiveHold0 s
  | .start => execReceiveStart s
  | .stop => execReceiveStop s

/-- The handler of decoder RECEIVE_WAIT (R92): one cell per event word. -/
def updateReceiveWait (pc pd c d : Level) (s : State) : Result :=
  match classify pc pd c d with
  | .low => execReceiveWaitLow pd d s
  | .rise0 => execReceiveWaitRise pd d s
  | .rise1 => execReceiveWaitRise pd d s
  | .fall => execReceiveWaitFall pd d s
  | .hold => if d then execReceiveWaitHold1 s else execReceiveWaitHold0 s
  | .start => execReceiveWaitStart s
  | .stop => execReceiveWaitStop s

/-- The handler of decoder ACKNOWLEDGE (R92): one cell per event word. -/
def updateAcknowledge (pc pd c d : Level) (s : State) : Result :=
  match classify pc pd c d with
  | .low => execAcknowledgeLow pd d s
  | .rise0 => execAcknowledgeRise pd d s
  | .rise1 => execAcknowledgeRise pd d s
  | .fall => execAcknowledgeFall pd d s
  | .hold => if d then execAcknowledgeHold1 s else execAcknowledgeHold0 s
  | .start => execAcknowledgeStart s
  | .stop => execAcknowledgeStop s

/-- The handler of decoder TRANSMIT_START (R92): one cell per event word. -/
def updateTransmitStart (pc pd c d : Level) (s : State) : Result :=
  match classify pc pd c d with
  | .low => execTransmitStartLow pd d s
  | .rise0 => execTransmitStartRise pd d s
  | .rise1 => execTransmitStartRise pd d s
  | .fall => execTransmitStartFall pd d s
  | .hold => if d then execTransmitStartHold1 s else execTransmitStartHold0 s
  | .start => execTransmitStartStart s
  | .stop => execTransmitStartStop s

/-- The handler of decoder TRANSMIT (R92): one cell per event word. -/
def updateTransmit (pc pd c d : Level) (s : State) : Result :=
  match classify pc pd c d with
  | .low => execTransmitLow pd d s
  | .rise0 => execTransmitRise pd d s
  | .rise1 => execTransmitRise pd d s
  | .fall => execTransmitFall pd d s
  | .hold => if d then execTransmitHold1 s else execTransmitHold0 s
  | .start => execTransmitStart s
  | .stop => execTransmitStop s

/-- The handler of decoder TRANSACKNOWLEDGE (R92): one cell per event word. -/
def updateTransacknowledge (pc pd c d : Level) (s : State) : Result :=
  match classify pc pd c d with
  | .low => execTransacknowledgeLow pd d s
  | .rise0 => execTransacknowledgeRise0 pd s
  | .rise1 => execTransacknowledgeRise1 pd s
  | .fall => execTransacknowledgeFall pd d s
  | .hold => if d then execTransacknowledgeHold1 s else execTransacknowledgeHold0 s
  | .start => execTransacknowledgeStart s
  | .stop => execTransacknowledgeStop s

/-- The handler of decoder TRANSMIT_WAIT (R92): one cell per event word. -/
def updateTransmitWait (pc pd c d : Level) (s : State) : Result :=
  match classify pc pd c d with
  | .low => execTransmitWaitLow pd d s
  | .rise0 => execTransmitWaitRise pd d s
  | .rise1 => execTransmitWaitRise pd d s
  | .fall => execTransmitWaitFall pd d s
  | .hold => if d then execTransmitWaitHold1 s else execTransmitWaitHold0 s
  | .start => execTransmitWaitStart s
  | .stop => execTransmitWaitStop s

/-- Dispatch (R86): `decoder_state` is read once, when the call starts, and selects one handler. -/
def runUpdate (pc pd c d : Level) (s : State) : Result :=
  match s.decoderState with
  | .idle => updateIdle pc pd c d s
  | .receive => updateReceive pc pd c d s
  | .receiveWait => updateReceiveWait pc pd c d s
  | .acknowledge => updateAcknowledge pc pd c d s
  | .transmitStart => updateTransmitStart pc pd c d s
  | .transmit => updateTransmit pc pd c d s
  | .transacknowledge => updateTransacknowledge pc pd c d s
  | .transmitWait => updateTransmitWait pc pd c d s

/-- `UPDATE` (R80, R193): `pc` and `pd` are the line registers as they stand when the call starts (R61). -/
def execUpdate (c d : Level) (s : State) : Result :=
  whenLive s (runUpdate s.clockLevel s.lastDataLevel c d s)

end Sys2Proof.Machine
end

