-- ==== Sys2Proof/Machine/RegistryPort.lean ====
section
/-! DEFINITION. The registry contract: format REG (45_registry_interface.md R205 to R209). -/

namespace Sys2Proof.Machine

/-- `HAS_DEVICE` (R205): returns whether a device is present. -/
def execHasDevice (a : Addr) (s : State) : Result :=
  whenLive s (.next { callHas a s with reply := .present (s.registry.has a) })

/-- `TRANSACTION_START` (R206). -/
def execTransactionStart (a : Addr) (s : State) : Result := whenLive s (.next (returnNothing (callStart a s)))

/-- `TRANSACTION_END` (R207). -/
def execTransactionEnd (a : Addr) (s : State) : Result := whenLive s (.next (returnNothing (callEnd a s)))

/-- `READ_BYTE` (R208): returns the device's next byte. -/
def execReadByte (a : Addr) (s : State) : Result :=
  whenLive s (.next { callRead a s with reply := .byte (s.registry.byte a) })

/-- `WRITE_BYTE` (R209). -/
def execWriteByte (a : Addr) (b : Byte) (s : State) : Result :=
  whenLive s (.next (returnNothing (callWrite a b s)))

end Sys2Proof.Machine
end

