-- ==== Sys2Proof/Machine/TransferController.lean ====
section
/-! DEFINITION. The Transfer Controller's commands and cases: formats CTL, CBYTE and ADDR (43_transfer_controller.md, 30_encoding.md R64, R68). -/

namespace Sys2Proof.Machine

/-- `CONSUME_BYTE` (R161). -/
def execConsumeByte (s : State) : Result := whenLive s (.next (returnNothing (consumeByte s)))

/-- `NEXT_BYTE` (R172). -/
def execNextByte (s : State) : Result := whenLive s (.next (returnNothing (nextByte s)))

/-- `END_TRANSACTION` (R175). -/
def execEndTransaction (s : State) : Result := whenLive s (.next (returnNothing (endTransaction s)))

/-- `CONSUME.IDLE.WR` (R162 to R164). -/
def execConsumeIdleWr (a : Addr) (s : State) : Result :=
  atByte .idle (addressByte a false) s (.next (returnNothing (consumeAddress a false s)))

/-- `CONSUME.IDLE.RD` (R162, R163, R165). -/
def execConsumeIdleRd (a : Addr) (s : State) : Result :=
  atByte .idle (addressByte a true) s (.next (returnNothing (consumeAddress a true s)))

/-- `CONSUME.RECEIVE_ADDRESS` (R166). -/
def execConsumeReceiveAddress (b : Byte) (s : State) : Result :=
  atByte .receiveAddress b s (.next (returnNothing (consumeFirstData b s)))

/-- `CONSUME.RECEIVE_DATA` (R167). -/
def execConsumeReceiveData (b : Byte) (s : State) : Result :=
  atByte .receiveData b s (.next (returnNothing (forwardByte b s)))

/-- `CONSUME.SEND_DATA` (R168): no action. -/
def execConsumeSendData (b : Byte) (s : State) : Result := atByte .sendData b s (.next (returnNothing s))

/-- `CONSUME.INVALID` (R168): no action, the byte is discarded. -/
def execConsumeInvalid (b : Byte) (s : State) : Result := atByte .invalid b s (.next (returnNothing s))

/-- `ADDR.WRITE` (R64, R162, R164): the first byte after a start, read as `address` with `read_flag = 0`. -/
def execAddrWrite (a : Addr) (s : State) : Result :=
  atByte .idle (addressByte a false) s (.next (returnNothing (consumeAddress a false s)))

/-- `ADDR.READ` (R64, R162, R165): the first byte after a start, read as `address` with `read_flag = 1`. -/
def execAddrRead (a : Addr) (s : State) : Result :=
  atByte .idle (addressByte a true) s (.next (returnNothing (consumeAddress a true s)))

end Sys2Proof.Machine
end

