-- ==== Sys2Proof/Machine/Dispatch.lean ====
section
/-! DEFINITION. One arm per operation. -/

namespace Sys2Proof.Machine

def exec (i : Instr) (s : State) : Host.Outcome State Fault Refusal :=
  match i with
  | .idleStart => Sys2Proof.Machine.execIdleStart s
  | .idleLstart => Sys2Proof.Machine.execIdleLstart s
  | .idleRise0 => Sys2Proof.Machine.execIdleRise0 s
  | .idleRise1 pd => Sys2Proof.Machine.execIdleRise1 pd s
  | .idleStop => Sys2Proof.Machine.execIdleStop s
  | .idleFall pd d => Sys2Proof.Machine.execIdleFall pd d s
  | .idleLow pd d => Sys2Proof.Machine.execIdleLow pd d s
  | .idleHold0 => Sys2Proof.Machine.execIdleHold0 s
  | .idleHold1 => Sys2Proof.Machine.execIdleHold1 s
  | .receiveRise pd d => Sys2Proof.Machine.execReceiveRise pd d s
  | .receiveStop => Sys2Proof.Machine.execReceiveStop s
  | .receiveStart => Sys2Proof.Machine.execReceiveStart s
  | .receiveFall pd d => Sys2Proof.Machine.execReceiveFall pd d s
  | .receiveLow pd d => Sys2Proof.Machine.execReceiveLow pd d s
  | .receiveHold0 => Sys2Proof.Machine.execReceiveHold0 s
  | .receiveHold1 => Sys2Proof.Machine.execReceiveHold1 s
  | .receiveWaitRise pd d => Sys2Proof.Machine.execReceiveWaitRise pd d s
  | .receiveWaitStop => Sys2Proof.Machine.execReceiveWaitStop s
  | .receiveWaitStart => Sys2Proof.Machine.execReceiveWaitStart s
  | .receiveWaitFall pd d => Sys2Proof.Machine.execReceiveWaitFall pd d s
  | .receiveWaitLow pd d => Sys2Proof.Machine.execReceiveWaitLow pd d s
  | .receiveWaitHold0 => Sys2Proof.Machine.execReceiveWaitHold0 s
  | .receiveWaitHold1 => Sys2Proof.Machine.execReceiveWaitHold1 s
  | .acknowledgeRise pd d => Sys2Proof.Machine.execAcknowledgeRise pd d s
  | .acknowledgeStop => Sys2Proof.Machine.execAcknowledgeStop s
  | .acknowledgeStart => Sys2Proof.Machine.execAcknowledgeStart s
  | .acknowledgeFall pd d => Sys2Proof.Machine.execAcknowledgeFall pd d s
  | .acknowledgeLow pd d => Sys2Proof.Machine.execAcknowledgeLow pd d s
  | .acknowledgeHold0 => Sys2Proof.Machine.execAcknowledgeHold0 s
  | .acknowledgeHold1 => Sys2Proof.Machine.execAcknowledgeHold1 s
  | .transmitStartRise pd d => Sys2Proof.Machine.execTransmitStartRise pd d s
  | .transmitStartStop => Sys2Proof.Machine.execTransmitStartStop s
  | .transmitStartStart => Sys2Proof.Machine.execTransmitStartStart s
  | .transmitStartFall pd d => Sys2Proof.Machine.execTransmitStartFall pd d s
  | .transmitStartLow pd d => Sys2Proof.Machine.execTransmitStartLow pd d s
  | .transmitStartHold0 => Sys2Proof.Machine.execTransmitStartHold0 s
  | .transmitStartHold1 => Sys2Proof.Machine.execTransmitStartHold1 s
  | .transmitRise pd d => Sys2Proof.Machine.execTransmitRise pd d s
  | .transmitFall pd d => Sys2Proof.Machine.execTransmitFall pd d s
  | .transmitStop => Sys2Proof.Machine.execTransmitStop s
  | .transmitStart => Sys2Proof.Machine.execTransmitStart s
  | .transmitLow pd d => Sys2Proof.Machine.execTransmitLow pd d s
  | .transmitHold0 => Sys2Proof.Machine.execTransmitHold0 s
  | .transmitHold1 => Sys2Proof.Machine.execTransmitHold1 s
  | .transacknowledgeRise1 pd => Sys2Proof.Machine.execTransacknowledgeRise1 pd s
  | .transacknowledgeRise0 pd => Sys2Proof.Machine.execTransacknowledgeRise0 pd s
  | .transacknowledgeStop => Sys2Proof.Machine.execTransacknowledgeStop s
  | .transacknowledgeStart => Sys2Proof.Machine.execTransacknowledgeStart s
  | .transacknowledgeFall pd d => Sys2Proof.Machine.execTransacknowledgeFall pd d s
  | .transacknowledgeLow pd d => Sys2Proof.Machine.execTransacknowledgeLow pd d s
  | .transacknowledgeHold0 => Sys2Proof.Machine.execTransacknowledgeHold0 s
  | .transacknowledgeHold1 => Sys2Proof.Machine.execTransacknowledgeHold1 s
  | .transmitWaitStart => Sys2Proof.Machine.execTransmitWaitStart s
  | .transmitWaitStop => Sys2Proof.Machine.execTransmitWaitStop s
  | .transmitWaitRise pd d => Sys2Proof.Machine.execTransmitWaitRise pd d s
  | .transmitWaitFall pd d => Sys2Proof.Machine.execTransmitWaitFall pd d s
  | .transmitWaitLow pd d => Sys2Proof.Machine.execTransmitWaitLow pd d s
  | .transmitWaitHold0 => Sys2Proof.Machine.execTransmitWaitHold0 s
  | .transmitWaitHold1 => Sys2Proof.Machine.execTransmitWaitHold1 s
  | .create ref label => Sys2Proof.Machine.execCreate ref label s
  | .destroy => Sys2Proof.Machine.execDestroy s
  | .update c d => Sys2Proof.Machine.execUpdate c d s
  | .getClockLevel => Sys2Proof.Machine.execGetClockLevel s
  | .getDataLevel => Sys2Proof.Machine.execGetDataLevel s
  | .getRegistryHandle => Sys2Proof.Machine.execGetRegistryHandle s
  | .consumeByte => Sys2Proof.Machine.execConsumeByte s
  | .nextByte => Sys2Proof.Machine.execNextByte s
  | .endTransaction => Sys2Proof.Machine.execEndTransaction s
  | .consumeIdleWr a => Sys2Proof.Machine.execConsumeIdleWr a s
  | .consumeIdleRd a => Sys2Proof.Machine.execConsumeIdleRd a s
  | .consumeReceiveAddress b => Sys2Proof.Machine.execConsumeReceiveAddress b s
  | .consumeReceiveData b => Sys2Proof.Machine.execConsumeReceiveData b s
  | .consumeSendData b => Sys2Proof.Machine.execConsumeSendData b s
  | .consumeInvalid b => Sys2Proof.Machine.execConsumeInvalid b s
  | .hasDevice a => Sys2Proof.Machine.execHasDevice a s
  | .transactionStart a => Sys2Proof.Machine.execTransactionStart a s
  | .transactionEnd a => Sys2Proof.Machine.execTransactionEnd a s
  | .readByte a => Sys2Proof.Machine.execReadByte a s
  | .writeByte a b => Sys2Proof.Machine.execWriteByte a b s
  | .addrWrite a => Sys2Proof.Machine.execAddrWrite a s
  | .addrRead a => Sys2Proof.Machine.execAddrRead a s

end Sys2Proof.Machine
end

