-- ==== Sys2Proof/Machine/Fetch.lean ====
section
/-! DEFINITION. How an operation comes to run: the queue of presented operations stands in the place of a fetch (10_state.md
R22, R53; log 1), and how a table word is presented (log 16). -/

namespace Sys2Proof.Machine

/-- The next presented call, and the state with it taken off the queue. -/
def takeCall (s : State) : Option (Call × State) :=
  match s.pending with
  | [] => none
  | k :: rest => some (k, { s with pending := rest })

/-- The state in which a call's word is the one that would be formed (R61, R64, R66, R68): a `UPD` word is formed from
`decoder_state`, `clock_level` and `last_data_level`, a `CBYTE` word or an address byte from `transfer_state` and
`shift_byte`. Every other word is not formed from state. -/
def selectWord (k : Call) (s : State) : State :=
  match k.fmt with
  | .upd =>
    { s with
      decoderState := decoderStateOf (k.word.extractLsb' 4 3)
      clockLevel := k.word.getLsbD 3
      lastDataLevel := k.word.getLsbD 2 }
  | .cbyte =>
    { s with
      transferState := (match (k.word.extractLsb' 8 3).toNat with
        | 0 => .idle
        | 1 => .receiveAddress
        | 2 => .receiveData
        | 3 => .sendData
        | _ => .invalid)
      shiftByte := k.word.extractLsb' 0 8 }
  | .addr => { s with transferState := .idle, shiftByte := k.word.extractLsb' 0 8 }
  | .host => s
  | .ctl => s
  | .reg => s

/-- A call presented as the very next one, in a state that selects it. -/
def present (k : Call) (s : State) : State :=
  let t := selectWord k s
  { t with pending := k :: s.pending }

end Sys2Proof.Machine
end

