-- ==== Sys2Proof/Machine/Step.lean ====
section
/-! DEFINITION. One step: the next presented operation is decoded and run (40_update.md R80; D1: one call is one atomic
step). Where nothing is presented the endpoint does nothing (60_exceptions.md R225, R235). -/

namespace Sys2Proof.Machine

/-- One step. -/
def step (s : State) : Host.Outcome State Fault Refusal :=
  match takeCall s with
  | none => .next s
  | some (k, t) =>
    match decode k with
    | .ok i => exec i t
    | .error e => .refused (.undecodable e)

/-- The state with a table word presented as the next operation (log 16). -/
def State.withFetchWord (s : State) (nbits w : Nat) : State := present (tableCall nbits w) s

end Sys2Proof.Machine
end

