-- ==== Sys2Proof/Safety.lean ====
section
/-! DEFINITION. The terms claims are made in: when a cell is selected, the invariants of 10_state.md R25, R26 and
20_memory.md R55, the consolidated pseudocode of 40_update.md R91, the registry calls of 20_memory.md R49, and the
master's moves of 30_encoding.md R71. -/

namespace Sys2Proof.Safety

open Sys2Proof.Machine

/-- The endpoint exists and its state selects the cells of decoder state `st` with entry levels `pc`, `pd` (R66). -/
abbrev Selected (st : DecoderState) (pc pd : Level) (s : State) : Prop :=
  s.life = .live ∧ s.decoderState = st ∧ s.clockLevel = pc ∧ s.lastDataLevel = pd

/-- The endpoint exists, and `consume_byte` would read byte `b` in sub-state `ts` (R68). -/
abbrev ByteSelected (ts : TransferState) (b : Byte) (s : State) : Prop :=
  s.life = .live ∧ s.transferState = ts ∧ s.shiftByte = b

/-! ### States after a call, field by field -/

/-- Only the two entry levels follow the inputs (R88 steps 2 and 3): no rising clock edge, no action. -/
def recorded (c d : Level) (s : State) : State :=
  { s with clockLevel := c, lastDataLevel := d, reply := .nothing }

/-- A rising clock edge without an action (R88): the output latches the observed data level. -/
def latched (d : Level) (s : State) : State :=
  { s with clockLevel := true, lastDataLevel := d, dataLevel := d, reply := .nothing }

/-- A start or stop that is ignored and recorded (R223), the clock staying high. -/
def ignored (st : DecoderState) (cls : EventClass) (d : Level) (s : State) : State :=
  { s with
    clockLevel := true, lastDataLevel := d, reply := .nothing
    trace := s.trace ++ [.ignoredTransition st cls] }

/-- The transaction, if one is open, ended at the registry, and the idle values restored (R83, R175). -/
def ended (s : State) : State :=
  { s with
    decoderState := .idle, transferState := .idle, currentAddress := none, direction := .write
    driveRole := .txMaster
    history := s.history ++ (match s.currentAddress with | none => [] | some a => [.transactionEnd a])
    registry := (match s.currentAddress with | none => s.registry | some a => s.registry.afterEnd a) }

/-- A stop condition acted on (R83): the transaction ended, data seen high. -/
def stopped (s : State) : State :=
  { ended s with clockLevel := true, lastDataLevel := true, reply := .nothing }

/-- One sampled bit (R106), in RECEIVE, at the end of the call. -/
def sampled (d : Level) (s : State) : State :=
  { s with
    decoderState := .receive
    shiftByte := (s.shiftByte.extractLsb' 0 7).concat d
    bitPosition := s.bitPosition + 1
    clockLevel := true, lastDataLevel := d, dataLevel := d, reply := .nothing }

/-- One driven bit (R133), in TRANSMIT, at the end of the call. -/
def driven (d : Level) (s : State) : State :=
  { s with
    decoderState := .transmit
    dataLevel := s.shiftByte.getLsbD 7
    shiftByte := (s.shiftByte.extractLsb' 0 7).concat false
    bitPosition := s.bitPosition + 1
    clockLevel := true, lastDataLevel := d, reply := .nothing }

/-- The byte at the current address fetched into `shift_byte` (R172). -/
def fetched (a : Addr) (s : State) : State :=
  { s with
    shiftByte := s.registry.byte a
    registry := s.registry.afterRead a
    history := s.history ++ [.readByte a (s.registry.byte a)] }

/-! ### Invariants -/

/-- I-b: decoder IDLE. -/
abbrev IdleInv (s : State) : Prop :=
  s.decoderState = .idle →
    s.currentAddress = none ∧ s.transferState = .idle ∧ s.direction = .write ∧ s.driveRole = .txMaster

/-- I-c, and R92's "`bit_position` is 0 in RECEIVE_WAIT". -/
abbrev ReceiveInv (s : State) : Prop :=
  (s.decoderState = .receive ∨ s.decoderState = .receiveWait →
    s.driveRole = .txMaster ∧ s.direction = .write ∧ s.bitPosition ≤ 7) ∧
  (s.decoderState = .receiveWait → s.bitPosition = 0)

/-- I-d. -/
abbrev TransmitInv (s : State) : Prop :=
  s.decoderState = .transmitStart ∨ s.decoderState = .transmit ∨ s.decoderState = .transacknowledge →
    s.driveRole = .txSlave ∧ s.direction = .read ∧ s.transferState = .sendData ∧ s.currentAddress ≠ none

/-- I-e, and R176: ACKNOWLEDGE never meets sub-state IDLE. -/
abbrev AcknowledgeInv (s : State) : Prop :=
  s.decoderState = .acknowledge → s.bitPosition = 8 ∧ s.transferState ≠ .idle

/-- I-f and I-g. -/
abbrev CountInv (s : State) : Prop :=
  (s.decoderState = .transacknowledge → s.clockLevel = false ∧ s.bitPosition = 8) ∧
  (s.decoderState = .transmitStart → s.bitPosition = 0) ∧
  (s.decoderState = .transmit → s.clockLevel = false → s.bitPosition ≤ 7)

/-- I-i, and its counterpart for SEND_DATA. -/
abbrev AddressInv (s : State) : Prop :=
  (s.transferState = .receiveAddress ∨ s.transferState = .receiveData →
    s.currentAddress ≠ none ∧ s.direction = .write) ∧
  (s.transferState = .sendData → s.currentAddress ≠ none)

/-- I-j, and that the sub-state of a read is SEND_DATA. -/
abbrev RoleInv (s : State) : Prop :=
  (s.driveRole = .txSlave ↔ s.direction = .read) ∧ (s.direction = .read ↔ s.transferState = .sendData)

/-- The invariants of R26, with the strengthenings they need to be kept by every step. -/
abbrev EndpointInv (s : State) : Prop :=
  IdleInv s ∧ ReceiveInv s ∧ TransmitInv s ∧ AcknowledgeInv s ∧ CountInv s ∧ s.decoderState ≠ .transmitWait ∧
    AddressInv s ∧ RoleInv s

/-- Only the caller's own operations are presented (R200). -/
abbrev HostOnly (s : State) : Prop := ∀ k ∈ s.pending, k.fmt = .host

/-- No registry call is presented from outside the endpoint. -/
abbrev NoForeignRegistryCall (s : State) : Prop := ∀ k ∈ s.pending, k.fmt ≠ .reg

/-! ### Bracketing of the registry calls (R55, R213) -/

/-- Where a history stands: no transaction, one announced by a `has_device` that found its device, one open at an
address, or a broken bracket. -/
inductive Bracket where
  | closed
  | announced (a : Addr)
  | opened (a : Addr)
  | broken
  deriving DecidableEq, Repr

/-- One call: `transaction_start` only outside a transaction and only for an address just found present; data calls and
`transaction_end` only inside one, at the address of the last address byte that found its device. -/
def bracketStep (k : Bracket) (e : RegistryCall) : Bracket :=
  match k, e with
  | .closed, .hasDevice a true => .announced a
  | .closed, .hasDevice _ false => .closed
  | .announced a, .transactionStart b => if a = b then .opened a else .broken
  | .opened _, .hasDevice b true => .opened b
  | .opened a, .hasDevice _ false => .opened a
  | .opened a, .readByte b _ => if a = b then .opened a else .broken
  | .opened a, .writeByte b _ => if a = b then .opened a else .broken
  | .opened a, .transactionEnd b => if a = b then .closed else .broken
  | _, _ => .broken

/-- Where a whole history stands. -/
def bracketOf (h : List RegistryCall) : Bracket := h.foldl bracketStep .closed

/-- The history is bracketed, and the transaction it leaves open is the endpoint's `current_address`. -/
def Bracketed (s : State) : Prop :=
  bracketOf s.history = (match s.currentAddress with | none => .closed | some a => .opened a)

/-! ### The consolidated pseudocode of `update` (R91) -/

/-- R91 read line by line, with the anomalies of R222 and R223 recorded; `refuse` is the refusal of R72 (c). -/
def updatePseudocode (c d : Level) (s : State) : Result :=
  let pc := s.clockLevel
  let pd := s.lastDataLevel
  let rise := (pc == false && c == true)
  let fall := (pc == true && c == false)
  let start := (pc == true && c == true && pd == true && d == false)
  let stop := (pc == true && c == true && pd == false && d == true)
  let close := fun (out : Level) (t : State) =>
    Host.Outcome.next (ρ := Refusal) (φ := Fault)
      { t with
        dataLevel := if rise then out else t.dataLevel
        lastDataLevel := d
        clockLevel := c
        reply := .nothing }
  let ignore := fun (cls : EventClass) => { s with trace := s.trace ++ [.ignoredTransition s.decoderState cls] }
  let halt := { endTransaction s with decoderState := .idle }
  match s.decoderState with
  | .idle =>
    if c == true && pd == true && d == false then close d { s with decoderState := .receive, bitPosition := 0 }
    else if stop then close d (ignore .stop)
    else close d s
  | .receive | .receiveWait =>
    if rise then
      if s.bitPosition = 8 then .refused .riseAtByteBoundary
      else
        let t := { s with
          decoderState := .receive
          shiftByte := (s.shiftByte.extractLsb' 0 7).concat d
          bitPosition := s.bitPosition + 1 }
        if t.bitPosition = 8 then close d { consumeByte t with decoderState := .acknowledge } else close d t
    else if stop then close d halt
    else if start then close d { s with bitPosition := 0, transferState := .idle }
    else close d s
  | .acknowledge =>
    if rise then
      close false { s with
        bitPosition := 0
        decoderState := if s.driveRole = .txMaster then .receiveWait else .transmit }
    else if stop then close d halt
    else if start then close d (ignore .start)
    else close d s
  | .transmitStart | .transmit =>
    if rise then
      if s.bitPosition = 8 then .refused .riseAtByteBoundary
      else
        .next { s with
          decoderState := .transmit
          dataLevel := s.shiftByte.getLsbD 7
          shiftByte := (s.shiftByte.extractLsb' 0 7).concat false
          bitPosition := s.bitPosition + 1
          clockLevel := c
          lastDataLevel := d
          reply := .nothing }
    else if fall && s.bitPosition == 8 then close d { s with decoderState := .transacknowledge }
    else if stop then close d halt
    else if start then close d (ignore .start)
    else close d s
  | .transacknowledge =>
    if rise && d == true then
      close d { endTransaction { s with trace := s.trace ++ [.nakEnd] } with decoderState := .idle }
    else if rise && d == false then close d { nextByte s with bitPosition := 0, decoderState := .transmitStart }
    else if stop then close d halt
    else if start then close d (ignore .start)
    else close d s
  | .transmitWait =>
    if start then close d { nextByte s with bitPosition := 0 }
    else if stop then close d halt
    else close d s

/-! ### The registry calls of one `update` (R49) -/

/-- `transaction_end(A)` if a transaction is open. -/
def endCalls (s : State) : List RegistryCall :=
  match s.currentAddress with
  | none => []
  | some a => [.transactionEnd a]

/-- `read_byte(A)` if a transaction is open. -/
def readCalls (s : State) : List RegistryCall :=
  match s.currentAddress with
  | none => []
  | some a => [.readByte a (s.registry.byte a)]

/-- `write_byte(A, byte)` if a transaction is open. -/
def writeCalls (b : Byte) (s : State) : List RegistryCall :=
  match s.currentAddress with
  | none => []
  | some a => [.writeByte a b]

/-- The calls of an address byte for `a`. -/
def addressCalls (a : Addr) (readFlag : Bool) (s : State) : List RegistryCall :=
  if s.registry.has a then
    match s.currentAddress, readFlag with
    | none, false => [.hasDevice a true, .transactionStart a]
    | some _, false => [.hasDevice a true]
    | none, true =>
      [.hasDevice a true, .transactionStart a, .readByte a ((s.registry.afterStart a).byte a)]
    | some _, true => [.hasDevice a true, .readByte a (s.registry.byte a)]
  else [.hasDevice a false]

/-- The calls of a byte's eighth bit, by sub-state. -/
def byteCalls (b : Byte) (s : State) : List RegistryCall :=
  match s.transferState with
  | .idle => addressCalls (b.extractLsb' 1 7) (b.getLsbD 0) s
  | .receiveAddress => writeCalls b s
  | .receiveData => writeCalls b s
  | .sendData => []
  | .invalid => []

/-- The table of R49. -/
def callsOfUpdate (c d : Level) (s : State) : List RegistryCall :=
  match s.decoderState, classify s.clockLevel s.lastDataLevel c d with
  | .idle, _ => []
  | .transacknowledge, .rise1 => endCalls s
  | .transacknowledge, .rise0 => readCalls s
  | .transmitWait, .start => readCalls s
  | .receive, .rise0 => if s.bitPosition = 7 then byteCalls (shiftIn s.shiftByte d) s else []
  | .receive, .rise1 => if s.bitPosition = 7 then byteCalls (shiftIn s.shiftByte d) s else []
  | .receiveWait, .rise0 => if s.bitPosition = 7 then byteCalls (shiftIn s.shiftByte d) s else []
  | .receiveWait, .rise1 => if s.bitPosition = 7 then byteCalls (shiftIn s.shiftByte d) s else []
  | _, .stop => endCalls s
  | _, _ => []

/-- The registry after `n` reads at one address (R208). -/
def readTimes (a : Addr) : Nat → Registry → Registry
  | 0, r => r
  | n + 1, r => readTimes a n (r.afterRead a)

/-! ### The moves of a bit-banging master (R71) -/

/-- A list of `update` calls, run in order. -/
def runUpdates : List (Level × Level) → State → Result
  | [], s => .next s
  | (c, d) :: rest, s =>
    match exec (.update c d) s with
    | .next t => runUpdates rest t
    | .fault r => .fault r
    | .refused r => .refused r

/-- `WBIT b`: put bit `b`, clock high, clock low. -/
def wbit (b : Level) : List (Level × Level) := [(false, b), (true, b), (false, b)]

/-- `WBYTE xx`: eight bits, most significant first. -/
def wbyte (xx : Byte) : List (Level × Level) := (disassembleByte xx).flatMap wbit

/-- `S`: start, then pull the clock low. -/
def startMove : List (Level × Level) := [(true, false), (false, false)]

/-- `Sr`: release data, raise the clock, start, clock low. -/
def repeatedStartMove : List (Level × Level) := [(false, true), (true, true), (true, false), (false, false)]

/-- `P`: data low, raise the clock, release data. -/
def stopMove : List (Level × Level) := [(false, false), (true, false), (true, true)]

/-- The calls of `SACK`, `RBIT` and `MNAK`, "the same three calls"; their getter is asked after the second. -/
def releasedClock : List (Level × Level) := wbit true

/-- The calls of `MACK`. -/
def masterAcknowledge : List (Level × Level) := wbit false

/-- The quad of a call, `q = 2c + d` (R70). -/
def quad (u : Level × Level) : Nat := 2 * u.1.toNat + u.2.toNat

/-- The first 23 calls of `WBYTE xx`, up to and including the rising edge that samples the eighth bit. -/
def wbyteToEighthBit (xx : Byte) : List (Level × Level) := (wbyte xx).dropLast

/-- `n` times `RBIT -> v`: release data, clock high, read `data_level`, clock low. -/
def readLevels : Nat → State → Option (List Level × State)
  | 0, s => some ([], s)
  | n + 1, s =>
    match runUpdates [(false, true), (true, true)] s with
    | .next t =>
      match runUpdates [(false, true)] t with
      | .next u =>
        match readLevels n u with
        | some (vs, w) => some (t.dataLevel :: vs, w)
        | none => none
      | .fault _ => none
      | .refused _ => none
    | .fault _ => none
    | .refused _ => none

end Sys2Proof.Safety
end

