-- ==== Sys2Proof/Certificates/Slice0/Obligations.lean ====
section
/-! DEFINITION. The statements for the provers. A docstring names the rule a statement formalises, and the spec's
decision D<n> or the log entry it rests on where it rests on one. -/

open Sys2Proof Sys2Proof.Machine Sys2Proof.Safety

/-! ### Reset, the step, the encodings -/

/-- R30, R250: the state right after `create`. The line levels and the address are the document's values; the others
rest on the spec's decision D7. The registry reference and the name are not stated (log 4). -/
def Obligations.ResetIsAnIdleReleasedEndpoint : Prop :=
  State.reset.clockLevel = true ∧ State.reset.dataLevel = true ∧ State.reset.currentAddress = none ∧
  State.reset.lastDataLevel = true ∧ State.reset.decoderState = .idle ∧ State.reset.transferState = .idle ∧
  State.reset.direction = .write ∧ State.reset.driveRole = .txMaster ∧ State.reset.bitPosition = 0 ∧
  State.reset.shiftByte = 0x00#8 ∧ State.reset.history = []

/-- The model's choice (log 1), after D1 and R225, R235 (D34): a step takes the first presented call, decodes it and
runs it; where nothing is presented the endpoint does nothing. -/
def Obligations.StepRunsTheDecodedOperation : Prop :=
  ∀ s : State,
    (∀ (k : Call) (rest : List Call) (i : Instr), s.pending = k :: rest → decode k = .ok i →
      step s = exec i { s with pending := rest }) ∧
    (s.pending = [] → step s = .next s)

/-- R72 (b), D28: reserved codes are refused by the decoder, and the step refuses with the decoder's reason. -/
def Obligations.ReservedCodesAreRefused : Prop :=
  (∀ (w : OpWord) (b : Beside), w = 6#16 ∨ w = 7#16 →
    decode { fmt := .host, word := w, beside := b } = .error .reservedHostOp) ∧
  decode { fmt := .ctl, word := 3#16, beside := .none } = .error .reservedCtlCommand ∧
  (∀ (w : OpWord) (b : Beside), 5 ≤ w.toNat → w.toNat ≤ 7 →
    decode { fmt := .reg, word := w, beside := b } = .error .reservedRegistryOp) ∧
  (∀ w : OpWord, 5 * 256 ≤ w.toNat → w.toNat < 8 * 256 →
    decode { fmt := .cbyte, word := w, beside := .none } = .error .reservedTransferState) ∧
  (∀ (s : State) (k : Call) (rest : List Call) (e : DecodeError), s.pending = k :: rest → decode k = .error e →
    step s = .refused (.undecodable e))

/-- Words written out from the encodings of the table (R60 to R69) decode to their operations. -/
def Obligations.WordsOfTheTableDecode : Prop :=
  decode { fmt := .upd, word := 0b0001110#16, beside := .none } = .ok .idleStart ∧
  decode { fmt := .upd, word := 0b0010111#16, beside := .none } = .ok (.receiveRise true true) ∧
  decode { fmt := .upd, word := 0b1011001#16, beside := .none } = .ok (.transmitFall false true) ∧
  decode { fmt := .host, word := 0b01010#16, beside := .none } = .ok (.update true false) ∧
  decode { fmt := .ctl, word := 0b10#16, beside := .none } = .ok .endTransaction ∧
  decode { fmt := .cbyte, word := 0b00010100001#16, beside := .none } = .ok (.consumeIdleRd 0x50#7) ∧
  decode { fmt := .reg, word := 0b100#16, beside := .addressByte 0x50#7 0xA5#8 } = .ok (.writeByte 0x50#7 0xA5#8) ∧
  decode { fmt := .addr, word := 0b10100101#16, beside := .none } = .ok (.addrRead 0x52#7)

/-- Decode and encode agree on every operation, with every operand at every value. -/
def Obligations.DecodeOfEncodeIsTheOperation : Prop :=
  ∀ i : Instr, decode (encode i) = .ok i

/-- R60, R72 (b), D28: the decoder accepts exactly the well-formed calls, and a call it accepts has one meaning: it is
the encoding of what it decodes to. -/
def Obligations.AcceptedCallsAreTheEncodings : Prop :=
  ∀ k : Call,
    ((∃ i, decode k = .ok i) ↔ k.wellFormed = true) ∧
    ∀ i : Instr, decode k = .ok i → encode i = k

/-- R64: the first byte after a start is `(7-bit address << 1) | read_flag`, a set flag means that the master reads, and
on the wire the address comes first, its bit 6 leading, and the flag eighth. -/
def Obligations.AddressByteIsAddressThenReadFlag : Prop :=
  (∀ (a : Addr) (r : Bool),
    (addressByte a r).toNat = 2 * a.toNat + r.toNat ∧
    addressOf (addressByte a r) = a ∧ readFlagOf (addressByte a r) = r) ∧
  (∀ b : Byte, addressByte (addressOf b) (readFlagOf b) = b ∧
    addressOf b = b.extractLsb' 1 7 ∧ readFlagOf b = b.getLsbD 0) ∧
  addressByte 0x50#7 false = 0xA0#8 ∧ addressByte 0x50#7 true = 0xA1#8 ∧
  addressByte 0x52#7 true = 0xA5#8 ∧
  (∀ (a : Addr) (r : Bool),
    assembleByte [a.getLsbD 6, a.getLsbD 5, a.getLsbD 4, a.getLsbD 3, a.getLsbD 2, a.getLsbD 1, a.getLsbD 0, r] =
      addressByte a r) ∧
  ∀ s : State, s.transferState = .idle → s.registry.has (s.shiftByte.extractLsb' 1 7) = true →
    (consumeByte s).currentAddress = some (s.shiftByte.extractLsb' 1 7) ∧
    ((consumeByte s).direction = .read ↔ s.shiftByte.getLsbD 0 = true)

/-! ### Classification -/

/-- R81: the clock edges are recognised by the clock alone, with the call's `d` the sampled bit; the other classes are
those of R61, R82, R83. -/
def Obligations.ClockEdgesIgnoreTheDataLevel : Prop :=
  ∀ pc pd c d : Level,
    (classify pc pd c d = .rise0 ↔ pc = false ∧ c = true ∧ d = false) ∧
    (classify pc pd c d = .rise1 ↔ pc = false ∧ c = true ∧ d = true) ∧
    (classify pc pd c d = .fall ↔ pc = true ∧ c = false) ∧
    (classify pc pd c d = .low ↔ pc = false ∧ c = false) ∧
    (classify pc pd c d = .start ↔ pc = true ∧ c = true ∧ pd = true ∧ d = false) ∧
    (classify pc pd c d = .stop ↔ pc = true ∧ c = true ∧ pd = false ∧ d = true) ∧
    (classify pc pd c d = .hold ↔ pc = true ∧ c = true ∧ pd = d)

/-! ### The cells of the Line Decoder -/

/-- R101, in the form of the start test that the spec decides (D8): a start in IDLE opens reception, and on `LSTART` the
epilogue latches 0. -/
def Obligations.StartInIdleOpensReception : Prop :=
  ∀ s : State,
    (Selected .idle true true s → exec .idleStart s =
      .next { s with
        decoderState := .receive, bitPosition := 0, clockLevel := true, lastDataLevel := false
        reply := .nothing }) ∧
    (Selected .idle false true s → exec .idleLstart s =
      .next { s with
        decoderState := .receive, bitPosition := 0, clockLevel := true, lastDataLevel := false
        dataLevel := false, reply := .nothing })

/-- R102: every other class in IDLE has no action, a stop is ignored, and a rising edge is echoed. -/
def Obligations.OtherClassesInIdleOnlyRecord : Prop :=
  ∀ (s : State) (pd d : Level),
    (Selected .idle false false s → exec .idleRise0 s = .next (latched false s)) ∧
    (Selected .idle false pd s → exec (.idleRise1 pd) s = .next (latched true s)) ∧
    (Selected .idle true false s → exec .idleStop s = .next (ignored .idle .stop true s)) ∧
    (Selected .idle true pd s → exec (.idleFall pd d) s = .next (recorded false d s)) ∧
    (Selected .idle false pd s → exec (.idleLow pd d) s = .next (recorded false d s)) ∧
    (Selected .idle true false s → exec .idleHold0 s = .next (recorded true false s)) ∧
    (Selected .idle true true s → exec .idleHold1 s = .next (recorded true true s))

/-- R104, R106, R107: a rising edge in RECEIVE or RECEIVE_WAIT samples one bit, and the eighth bit is consumed and leads
to ACKNOWLEDGE in the same call. -/
def Obligations.RisingEdgeSamplesABit : Prop :=
  ∀ (s : State) (pd d : Level),
    (Selected .receive false pd s → s.bitPosition < 7 → exec (.receiveRise pd d) s = .next (sampled d s)) ∧
    (Selected .receive false pd s → s.bitPosition = 7 → exec (.receiveRise pd d) s =
      .next { consumeByte (sampled d s) with decoderState := .acknowledge }) ∧
    (Selected .receiveWait false pd s → s.bitPosition < 7 →
      exec (.receiveWaitRise pd d) s = .next (sampled d s)) ∧
    (Selected .receiveWait false pd s → s.bitPosition = 7 → exec (.receiveWaitRise pd d) s =
      .next { consumeByte (sampled d s) with decoderState := .acknowledge })

/-- R108, R132, R147: the stops the document names. -/
def Obligations.NamedStopsEndTheTransaction : Prop :=
  ∀ s : State,
    (Selected .receive true false s → exec .receiveStop s = .next (stopped s)) ∧
    (Selected .transmitStart true false s → exec .transmitStartStop s = .next (stopped s)) ∧
    (Selected .transmitWait true false s → exec .transmitWaitStop s = .next (stopped s))

/-- R105 (D11) and R113, R135, R142 (D9): the stops the spec decides. -/
def Obligations.DecidedStopsEndTheTransaction : Prop :=
  ∀ s : State,
    (Selected .receiveWait true false s → exec .receiveWaitStop s = .next (stopped s)) ∧
    (Selected .acknowledge true false s → exec .acknowledgeStop s = .next (stopped s)) ∧
    (Selected .transmit true false s → exec .transmitStop s = .next (stopped s)) ∧
    (Selected .transacknowledge true false s → exec .transacknowledgeStop s = .next (stopped s))

/-- R105 (D11): RECEIVE_WAIT shares the repeated start and stays RECEIVE_WAIT; its other classes do nothing. -/
def Obligations.ReceiveWaitSharesTheReceiveBody : Prop :=
  ∀ (s : State) (pd d : Level),
    (Selected .receiveWait true true s → exec .receiveWaitStart s =
      .next { s with
        bitPosition := 0, transferState := .idle, clockLevel := true, lastDataLevel := false
        reply := .nothing }) ∧
    (Selected .receiveWait true pd s → exec (.receiveWaitFall pd d) s = .next (recorded false d s)) ∧
    (Selected .receiveWait false pd s → exec (.receiveWaitLow pd d) s = .next (recorded false d s)) ∧
    (Selected .receiveWait true false s → exec .receiveWaitHold0 s = .next (recorded true false s)) ∧
    (Selected .receiveWait true true s → exec .receiveWaitHold1 s = .next (recorded true true s))

/-- R109, R110: a repeated start in RECEIVE resets the bit count and the sub-state and nothing else, no registry call
made; LOW, FALL and HOLD only follow the inputs. -/
def Obligations.RepeatedStartAndQuietClassesInReceive : Prop :=
  ∀ (s : State) (pd d : Level),
    (Selected .receive true true s → exec .receiveStart s =
      .next { s with
        bitPosition := 0, transferState := .idle, clockLevel := true, lastDataLevel := false
        reply := .nothing }) ∧
    (Selected .receive true pd s → exec (.receiveFall pd d) s = .next (recorded false d s)) ∧
    (Selected .receive false pd s → exec (.receiveLow pd d) s = .next (recorded false d s)) ∧
    (Selected .receive true false s → exec .receiveHold0 s = .next (recorded true false s)) ∧
    (Selected .receive true true s → exec .receiveHold1 s = .next (recorded true true s))

/-- R112: the acknowledge is driven low whatever `d` is, the bit count reset, and the next state chosen by who owns the
data bits. -/
def Obligations.AcknowledgeDrivesLowAndHandsOver : Prop :=
  ∀ (s : State) (pd d : Level), Selected .acknowledge false pd s → exec (.acknowledgeRise pd d) s =
    .next { s with
      bitPosition := 0
      decoderState := if s.driveRole = .txMaster then .receiveWait else .transmit
      dataLevel := false, lastDataLevel := d, clockLevel := true, reply := .nothing }

/-- R114 and R138, and R66's move at 8 by the shared body (D11): in ACKNOWLEDGE and TRANSMIT_START the classes without
an action do nothing. Their START is in `IgnoredStartsAreRecorded`. -/
def Obligations.OtherClassesInAcknowledgeAndTransmitStart : Prop :=
  ∀ (s : State) (pd d : Level),
    (Selected .acknowledge true pd s → exec (.acknowledgeFall pd d) s = .next (recorded false d s)) ∧
    (Selected .acknowledge false pd s → exec (.acknowledgeLow pd d) s = .next (recorded false d s)) ∧
    (Selected .acknowledge true false s → exec .acknowledgeHold0 s = .next (recorded true false s)) ∧
    (Selected .acknowledge true true s → exec .acknowledgeHold1 s = .next (recorded true true s)) ∧
    (Selected .transmitStart false pd s → exec (.transmitStartLow pd d) s = .next (recorded false d s)) ∧
    (Selected .transmitStart true false s → exec .transmitStartHold0 s = .next (recorded true false s)) ∧
    (Selected .transmitStart true true s → exec .transmitStartHold1 s = .next (recorded true true s)) ∧
    (Selected .transmitStart true pd s → s.bitPosition ≠ 8 →
      exec (.transmitStartFall pd d) s = .next (recorded false d s)) ∧
    (Selected .transmitStart true pd s → s.bitPosition = 8 →
      exec (.transmitStartFall pd d) s = .next { recorded false d s with decoderState := .transacknowledge })

/-- R131, R133 (the bit shifted in is D16's 0): a rising edge in TRANSMIT_START or TRANSMIT drives bit 7 and returns
early, so the observed `d` is not latched. -/
def Obligations.RisingEdgeDrivesABit : Prop :=
  ∀ (s : State) (pd d : Level), s.bitPosition ≠ 8 →
    (Selected .transmitStart false pd s → exec (.transmitStartRise pd d) s = .next (driven d s)) ∧
    (Selected .transmit false pd s → exec (.transmitRise pd d) s = .next (driven d s))

/-- The four starts that are ignored (R114, R136), by the spec's decision D10, and recorded (R223). -/
def Obligations.IgnoredStartsAreRecorded : Prop :=
  ∀ s : State,
    (Selected .acknowledge true true s → exec .acknowledgeStart s = .next (ignored .acknowledge .start false s)) ∧
    (Selected .transmitStart true true s →
      exec .transmitStartStart s = .next (ignored .transmitStart .start false s)) ∧
    (Selected .transmit true true s → exec .transmitStart s = .next (ignored .transmit .start false s)) ∧
    (Selected .transacknowledge true true s →
      exec .transacknowledgeStart s = .next (ignored .transacknowledge .start false s))

/-- R134, R137: the falling edge after the eighth bit moves to TRANSACKNOWLEDGE; in TRANSMIT the classes LOW, HOLD, START
and FALL below 8 have no action on the endpoint (what a start records is in `IgnoredStartsAreRecorded`). -/
def Obligations.FallAndQuietClassesInTransmit : Prop :=
  ∀ (s : State) (pd d : Level),
    (Selected .transmit true pd s → s.bitPosition = 8 →
      exec (.transmitFall pd d) s = .next { recorded false d s with decoderState := .transacknowledge }) ∧
    (Selected .transmit true pd s → s.bitPosition ≠ 8 →
      exec (.transmitFall pd d) s = .next (recorded false d s)) ∧
    (Selected .transmit false pd s → exec (.transmitLow pd d) s = .next (recorded false d s)) ∧
    (Selected .transmit true false s → exec .transmitHold0 s = .next (recorded true false s)) ∧
    (Selected .transmit true true s → exec .transmitHold1 s = .next (recorded true true s)) ∧
    (Selected .transmit true true s →
      ∃ t, exec .transmitStart s = .next t ∧ { t with trace := s.trace } = recorded true false s)

/-- R140, R143: a master that leaves data high ends the transaction, and NAK_END is recorded (R222); the classes without
an action on the endpoint (what a start records is in `IgnoredStartsAreRecorded`). -/
def Obligations.NotAcknowledgeAndQuietClassesInTransacknowledge : Prop :=
  ∀ (s : State) (pd d : Level),
    (Selected .transacknowledge false pd s → exec (.transacknowledgeRise1 pd) s =
      .next { ended s with
        dataLevel := true, lastDataLevel := true, clockLevel := true, reply := .nothing
        trace := s.trace ++ [.nakEnd] }) ∧
    (Selected .transacknowledge false pd s → exec (.transacknowledgeLow pd d) s = .next (recorded false d s)) ∧
    (Selected .transacknowledge true pd s → exec (.transacknowledgeFall pd d) s = .next (recorded false d s)) ∧
    (Selected .transacknowledge true false s → exec .transacknowledgeHold0 s = .next (recorded true false s)) ∧
    (Selected .transacknowledge true true s → exec .transacknowledgeHold1 s = .next (recorded true true s)) ∧
    (Selected .transacknowledge true true s →
      ∃ t, exec .transacknowledgeStart s = .next t ∧ { t with trace := s.trace } = recorded true false s)

/-- R141, whose reset of the bit count is D15's: a master that pulls data low gets the next byte; with no address
assigned nothing is fetched (D22). -/
def Obligations.AcknowledgedByteFetchesTheNext : Prop :=
  ∀ (s : State) (pd : Level), Selected .transacknowledge false pd s →
    (∀ a, s.currentAddress = some a → exec (.transacknowledgeRise0 pd) s =
      .next { fetched a s with
        bitPosition := 0, decoderState := .transmitStart, dataLevel := false, lastDataLevel := false
        clockLevel := true, reply := .nothing }) ∧
    (s.currentAddress = none → exec (.transacknowledgeRise0 pd) s =
      .next { s with
        bitPosition := 0, decoderState := .transmitStart, dataLevel := false, lastDataLevel := false
        clockLevel := true, reply := .nothing })

/-- R146, R148: a start in TRANSMIT_WAIT runs `next_byte`, resets the bit count and stays, which with a transaction open
fetches a byte; RISE, FALL, LOW and HOLD have no action, and a rising edge latches `d`. -/
def Obligations.StartAndQuietClassesInTransmitWait : Prop :=
  ∀ (s : State) (pd d : Level) (a : Addr),
    (Selected .transmitWait true true s → exec .transmitWaitStart s =
      .next { nextByte s with bitPosition := 0, clockLevel := true, lastDataLevel := false, reply := .nothing }) ∧
    (Selected .transmitWait true true s → s.currentAddress = some a → exec .transmitWaitStart s =
      .next { fetched a s with bitPosition := 0, clockLevel := true, lastDataLevel := false, reply := .nothing }) ∧
    (Selected .transmitWait false pd s → exec (.transmitWaitRise pd d) s = .next (latched d s)) ∧
    (Selected .transmitWait true pd s → exec (.transmitWaitFall pd d) s = .next (recorded false d s)) ∧
    (Selected .transmitWait false pd s → exec (.transmitWaitLow pd d) s = .next (recorded false d s)) ∧
    (Selected .transmitWait true false s → exec .transmitWaitHold0 s = .next (recorded true false s)) ∧
    (Selected .transmitWait true true s → exec .transmitWaitHold1 s = .next (recorded true true s))

/-! ### Stops by name -/

/-- R72 (c), D32: a rising edge with the bit count at 8 is refused in the four states that count bits. -/
def Obligations.RiseAtEightIsRefused : Prop :=
  ∀ (s : State) (pd d : Level), s.bitPosition = 8 →
    (Selected .receive false pd s → exec (.receiveRise pd d) s = .refused .riseAtByteBoundary) ∧
    (Selected .receiveWait false pd s → exec (.receiveWaitRise pd d) s = .refused .riseAtByteBoundary) ∧
    (Selected .transmitStart false pd s → exec (.transmitStartRise pd d) s = .refused .riseAtByteBoundary) ∧
    (Selected .transmit false pd s → exec (.transmitRise pd d) s = .refused .riseAtByteBoundary)

/-- The model's choice (log 9), after R64, R66 and R68: a cell, or a byte's case, that the state does not select is
refused, whatever it is. -/
def Obligations.UnselectedCellsAreRefused : Prop :=
  ∀ (s : State) (st : DecoderState) (pc pd c d : Level) (a : Addr) (b : Byte), s.life = .live →
    (¬ Selected st pc pd s → exec (decodeUpd st pc pd c d) s = .refused .cellNotSelected) ∧
    (¬ ByteSelected .idle (addressByte a false) s →
      exec (.consumeIdleWr a) s = .refused .cellNotSelected ∧ exec (.addrWrite a) s = .refused .cellNotSelected) ∧
    (¬ ByteSelected .idle (addressByte a true) s →
      exec (.consumeIdleRd a) s = .refused .cellNotSelected ∧ exec (.addrRead a) s = .refused .cellNotSelected) ∧
    (¬ ByteSelected .receiveAddress b s → exec (.consumeReceiveAddress b) s = .refused .cellNotSelected) ∧
    (¬ ByteSelected .receiveData b s → exec (.consumeReceiveData b) s = .refused .cellNotSelected) ∧
    (¬ ByteSelected .sendData b s → exec (.consumeSendData b) s = .refused .cellNotSelected) ∧
    (¬ ByteSelected .invalid b s → exec (.consumeInvalid b) s = .refused .cellNotSelected)

/-- R192, D29: `destroy` makes no registry call, an open transaction included, and a destroyed endpoint refuses every
operation. That DESTROY keeps every other field, that the operations of CTL, REG, CBYTE and ADDR are refused too, and
that CREATE alone is not, are the model's choice (log 8). -/
def Obligations.DestroyedEndpointRefusesOperations : Prop :=
  (∀ s : State, s.life = .live → exec .destroy s = .next { s with life := .destroyed, reply := .nothing }) ∧
  ∀ (s : State) (i : Instr), s.life = .destroyed → (∀ ref label, i ≠ .create ref label) →
    exec i s = .refused .endpointDestroyed

/-! ### The update operation as a whole -/

/-- R66: the pair of the decoder state and the event word selects one cell, and `update` runs it. -/
def Obligations.UpdateRunsTheSelectedCell : Prop :=
  ∀ (s : State) (c d : Level), ∃ i : Instr,
    decode (updCall (updWord s.decoderState s.clockLevel s.lastDataLevel c d)) = .ok i ∧
    exec (.update c d) s = exec i s

/-- R91: `update`, dispatched cell by cell, is the consolidated pseudocode, in every live state. -/
def Obligations.UpdateIsTheConsolidatedPseudocode : Prop :=
  ∀ (s : State) (c d : Level), s.life = .live → exec (.update c d) s = updatePseudocode c d s

/-- R236, R72 (c): `update` completes in every live state but for a rising edge at a full bit count in a state that
counts bits. -/
def Obligations.UpdateCompletesBelowEight : Prop :=
  ∀ (s : State) (c d : Level), s.life = .live →
    ¬ (s.clockLevel = false ∧ c = true ∧ s.bitPosition = 8 ∧
        (s.decoderState = .receive ∨ s.decoderState = .receiveWait ∨ s.decoderState = .transmitStart ∨
          s.decoderState = .transmit)) →
    ∃ t, exec (.update c d) s = .next t

/-- R90: a no-edge call changes no field of the endpoint and makes no registry call. -/
def Obligations.NoEdgeUpdateChangesNothing : Prop :=
  ∀ s : State, s.life = .live →
    exec (.update s.clockLevel s.lastDataLevel) s = .next { s with reply := .nothing }

/-- R83 (D9), after "Stop always terminates": a stop condition in any decoder state but IDLE ends the transaction. -/
def Obligations.StopAlwaysTerminates : Prop :=
  ∀ s : State, s.life = .live → s.decoderState ≠ .idle → s.clockLevel = true → s.lastDataLevel = false →
    exec (.update true true) s = .next (stopped s)

/-- R11: `clock_level` is the `c` of the most recent `update`, or 1 if there was none, and is what
`get_clock_level` returns. -/
def Obligations.ClockLevelIsTheLastCallsLevel : Prop :=
  State.reset.clockLevel = true ∧
  ∀ (s t : State) (c d : Level), exec (.update c d) s = .next t →
    t.clockLevel = c ∧ exec .getClockLevel t = .next { t with reply := .level c }

/-- R12: the data output changes only in an `update` with a rising clock edge, and then in exactly one of three ways;
`end_transaction` leaves it, and it is what `get_data_level` returns. -/
def Obligations.DataLevelChangesOnlyOnARisingEdge : Prop :=
  (∀ (s t : State) (c d : Level), exec (.update c d) s = .next t →
    (¬ (s.clockLevel = false ∧ c = true) → t.dataLevel = s.dataLevel) ∧
    (s.clockLevel = false → c = true →
      t.dataLevel =
        (match s.decoderState with
          | .transmitStart => s.shiftByte.getLsbD 7
          | .transmit => s.shiftByte.getLsbD 7
          | .acknowledge => false
          | _ => d))) ∧
  ∀ s : State, s.life = .live →
    (∃ t, exec .endTransaction s = .next t ∧ t.dataLevel = s.dataLevel) ∧
    exec .getDataLevel s = .next { s with reply := .level s.dataLevel }

/-- R15: what sets, increments and keeps the bit count. The reset by a master acknowledge is D15's, the loose start's
is D8's. -/
def Obligations.BitPositionCountsRisingEdges : Prop :=
  ∀ (s t : State) (c d : Level), exec (.update c d) s = .next t →
    t.bitPosition =
      (match s.decoderState, classify s.clockLevel s.lastDataLevel c d with
        | .idle, .start => 0
        | .idle, .rise0 => if s.lastDataLevel then 0 else s.bitPosition
        | .receive, .start => 0
        | .receiveWait, .start => 0
        | .transmitWait, .start => 0
        | .acknowledge, .rise0 => 0
        | .acknowledge, .rise1 => 0
        | .transacknowledge, .rise0 => 0
        | .receive, .rise0 => s.bitPosition + 1
        | .receive, .rise1 => s.bitPosition + 1
        | .receiveWait, .rise0 => s.bitPosition + 1
        | .receiveWait, .rise1 => s.bitPosition + 1
        | .transmitStart, .rise0 => s.bitPosition + 1
        | .transmitStart, .rise1 => s.bitPosition + 1
        | .transmit, .rise0 => s.bitPosition + 1
        | .transmit, .rise1 => s.bitPosition + 1
        | _, _ => s.bitPosition)

/-- R49: the registry calls of one `update` are those of the table, in its order, and at most three. -/
def Obligations.UpdateMakesTheTabledRegistryCalls : Prop :=
  ∀ (s t : State) (c d : Level), exec (.update c d) s = .next t →
    t.history = s.history ++ callsOfUpdate c d s ∧ (callsOfUpdate c d s).length ≤ 3

/-- R163, R168, after "Unregistered address absorption": in sub-state INVALID an `update` makes no `has_device`,
`transaction_start`, `read_byte` or `write_byte` call. -/
def Obligations.AbsorbedBytesReachNoDevice : Prop :=
  ∀ (s t : State) (c d : Level), EndpointInv s → s.transferState = .invalid → exec (.update c d) s = .next t →
    ∃ calls, t.history = s.history ++ calls ∧ ∀ e ∈ calls, ∃ a, e = .transactionEnd a

/-- R220, R226 (e): an `update` records at most one anomaly, and forgets none. -/
def Obligations.UpdateRecordsAtMostOneAnomaly : Prop :=
  ∀ (s t : State) (c d : Level), exec (.update c d) s = .next t →
    t.trace = s.trace ∨ ∃ x, t.trace = s.trace ++ [x]

/-- R13, R26 I-a (D14): an `update` records its `d`, in every state; R21, R23, R29: it leaves the reference, the name,
the endpoint's life and the presented operations alone, and returns nothing. -/
def Obligations.UpdateRecordsDataAndLeavesTheAttachment : Prop :=
  ∀ (s t : State) (c d : Level), exec (.update c d) s = .next t →
    t.lastDataLevel = d ∧ t.registryRef = s.registryRef ∧ t.busLabel = s.busLabel ∧ t.life = s.life ∧
      t.pending = s.pending ∧ t.reply = .nothing

/-- R21, D30: the bus name is inert: an `update` of two endpoints that differ only in it gives two that differ only in
it. -/
def Obligations.BusNameIsInert : Prop :=
  ∀ (s t : State) (c d : Level) (n : Label), exec (.update c d) s = .next t →
    exec (.update c d) { s with busLabel := n } = .next { t with busLabel := n }

/-- R5, D8, D9: what the two switches change, off. That a stop then ignored is recorded as IGNORED_TRANSITION is the
model's choice (log 15). -/
def Obligations.SwitchesChooseBetweenTheTwoReadings : Prop :=
  ∀ (s : State) (st : DecoderState) (loose stops : Bool) (pc pd c d : Level),
    stopUnderSwitch { stopAllStates := true, idleLooseStart := loose } st s = ended s ∧
    stopUnderSwitch { stopAllStates := false, idleLooseStart := loose } st s =
      { s with trace := s.trace ++ [.ignoredTransition st .stop] } ∧
    (idleStartCondition { stopAllStates := stops, idleLooseStart := true } pc pd c d = true ↔
      c = true ∧ pd = true ∧ d = false) ∧
    (idleStartCondition { stopAllStates := stops, idleLooseStart := false } pc pd c d = true ↔
      pc = true ∧ c = true ∧ pd = true ∧ d = false)

/-! ### The Transfer Controller -/

/-- R161, R68: `consume_byte` is the case that `transfer_state` and `shift_byte` select, and completes. -/
def Obligations.ConsumeByteSelectsByTheSubState : Prop :=
  ∀ s : State, s.life = .live → ∃ (i : Instr) (t : State),
    decode { fmt := .cbyte, word := cbyteWord s.transferState s.shiftByte, beside := .none } = .ok i ∧
    exec .consumeByte s = .next t ∧ exec i s = .next t

/-- R163 (D18, D19): an address byte for an absent device, write or read. That ADDR.WRITE and ADDR.READ, presented by
themselves, act as the two CBYTE cases do is the model's choice (log 10). -/
def Obligations.AbsentAddressIsAbsorbed : Prop :=
  ∀ (s : State) (a : Addr) (r : Bool), ByteSelected .idle (addressByte a r) s → s.registry.has a = false →
    exec (if r then .consumeIdleRd a else .consumeIdleWr a) s =
      .next { s with
        transferState := .invalid, direction := .write, driveRole := .txMaster, reply := .nothing
        history := s.history ++ [.hasDevice a false]
        trace := s.trace ++ [.unaddressedDevice a] } ∧
    exec (if r then .addrRead a else .addrWrite a) s =
      exec (if r then .consumeIdleRd a else .consumeIdleWr a) s

/-- R164 (D17): a write's address byte for a present device; `transaction_start` only if no transaction is open. That
ADDR.WRITE, presented by itself, acts as CONSUME.IDLE.WR does is the model's choice (log 10). -/
def Obligations.WriteAddressOpensTheTransaction : Prop :=
  ∀ (s : State) (a : Addr), ByteSelected .idle (addressByte a false) s → s.registry.has a = true →
    (s.currentAddress = none → exec (.consumeIdleWr a) s =
      .next { s with
        transferState := .receiveAddress, direction := .write, driveRole := .txMaster
        currentAddress := some a, reply := .nothing
        registry := s.registry.afterStart a
        history := s.history ++ [.hasDevice a true, .transactionStart a] }) ∧
    (s.currentAddress ≠ none → exec (.consumeIdleWr a) s =
      .next { s with
        transferState := .receiveAddress, direction := .write, driveRole := .txMaster
        currentAddress := some a, reply := .nothing
        history := s.history ++ [.hasDevice a true] }) ∧
    exec (.addrWrite a) s = exec (.consumeIdleWr a) s

/-- R165, R164 (D17): a read's address byte for a present device; the first byte is fetched at once. That ADDR.READ,
presented by itself, acts as CONSUME.IDLE.RD does is the model's choice (log 10). -/
def Obligations.ReadAddressPrefetchesTheFirstByte : Prop :=
  ∀ (s : State) (a : Addr), ByteSelected .idle (addressByte a true) s → s.registry.has a = true →
    (s.currentAddress = none → exec (.consumeIdleRd a) s =
      .next { s with
        transferState := .sendData, direction := .read, driveRole := .txSlave
        currentAddress := some a, reply := .nothing
        shiftByte := (s.registry.afterStart a).byte a
        registry := (s.registry.afterStart a).afterRead a
        history := s.history ++
          [.hasDevice a true, .transactionStart a, .readByte a ((s.registry.afterStart a).byte a)] }) ∧
    (s.currentAddress ≠ none → exec (.consumeIdleRd a) s =
      .next { s with
        transferState := .sendData, direction := .read, driveRole := .txSlave
        currentAddress := some a, reply := .nothing
        shiftByte := s.registry.byte a
        registry := s.registry.afterRead a
        history := s.history ++ [.hasDevice a true, .readByte a (s.registry.byte a)] }) ∧
    exec (.addrRead a) s = exec (.consumeIdleRd a) s

/-- R166, R167: data bytes of a write go to the registry at the current address, one `write_byte` each. -/
def Obligations.DataBytesAreForwarded : Prop :=
  ∀ (s : State) (a : Addr) (b : Byte), s.currentAddress = some a →
    (ByteSelected .receiveAddress b s → exec (.consumeReceiveAddress b) s =
      .next { s with
        transferState := if s.direction = .read then .sendData else .receiveData
        registry := s.registry.afterWrite a b
        history := s.history ++ [.writeByte a b]
        reply := .nothing }) ∧
    (ByteSelected .receiveData b s → exec (.consumeReceiveData b) s =
      .next { s with
        registry := s.registry.afterWrite a b
        history := s.history ++ [.writeByte a b]
        reply := .nothing })

/-- With no address assigned no data call is made. That a byte fetch makes none is the spec's D22; that a data byte of
a write, which no run meets in this state (R26 I-i), makes none is the model's choice (log 11). -/
def Obligations.WithoutAnAddressNoDataCallIsMade : Prop :=
  ∀ (s : State) (b : Byte), s.currentAddress = none →
    (ByteSelected .receiveAddress b s → exec (.consumeReceiveAddress b) s =
      .next { s with
        transferState := if s.direction = .read then .sendData else .receiveData
        reply := .nothing }) ∧
    (ByteSelected .receiveData b s → exec (.consumeReceiveData b) s = .next { s with reply := .nothing }) ∧
    (Selected .transmitWait true true s → exec .transmitWaitStart s =
      .next { s with bitPosition := 0, clockLevel := true, lastDataLevel := false, reply := .nothing })

/-- R168: a byte in SEND_DATA or INVALID changes no field and makes no call. -/
def Obligations.BytesInSendDataAndInvalidAreDiscarded : Prop :=
  ∀ (s : State) (b : Byte),
    (ByteSelected .sendData b s → exec (.consumeSendData b) s = .next { s with reply := .nothing }) ∧
    (ByteSelected .invalid b s → exec (.consumeInvalid b) s = .next { s with reply := .nothing })

/-- R172 and R175, as commands: `next_byte` fetches at the current address, or does nothing without one (D22), and
`end_transaction` ends an open transaction and restores the idle values, the roles included (D20). -/
def Obligations.NextByteAndEndTransaction : Prop :=
  ∀ s : State, s.life = .live →
    (∀ a, s.currentAddress = some a → exec .nextByte s = .next { fetched a s with reply := .nothing }) ∧
    (s.currentAddress = none → exec .nextByte s = .next { s with reply := .nothing }) ∧
    exec .endTransaction s =
      .next { ended s with decoderState := s.decoderState, reply := .nothing }

/-! ### The registry and the endpoint's own boundary -/

/-- R206 to R209: the registry calls, each recorded with its arguments and result. -/
def Obligations.RegistryCallsAreMadeAndRecorded : Prop :=
  ∀ (s : State) (a : Addr) (b : Byte), s.life = .live →
    exec (.transactionStart a) s =
      .next { s with
        registry := s.registry.afterStart a, history := s.history ++ [.transactionStart a], reply := .nothing } ∧
    exec (.transactionEnd a) s =
      .next { s with
        registry := s.registry.afterEnd a, history := s.history ++ [.transactionEnd a], reply := .nothing } ∧
    exec (.readByte a) s =
      .next { s with
        registry := s.registry.afterRead a
        history := s.history ++ [.readByte a (s.registry.byte a)]
        reply := .byte (s.registry.byte a) } ∧
    exec (.writeByte a b) s =
      .next { s with
        registry := s.registry.afterWrite a b, history := s.history ++ [.writeByte a b], reply := .nothing }

/-- R205 (D25): `has_device` answers and has no side effect on the registry. -/
def Obligations.HasDeviceHasNoSideEffect : Prop :=
  ∀ (s : State) (a : Addr), s.life = .live → exec (.hasDevice a) s =
    .next { s with
      history := s.history ++ [.hasDevice a (s.registry.has a)]
      reply := .present (s.registry.has a) }

/-- R70 (D27): in a declared registry, in its canonical form, exactly the declared addresses are present, and reads keep
that; every declared device gives its bytes in order and 0xFF when they are used up; and the reads of one device leave
the coming bytes of every other alone. -/
def Obligations.DeclaredDevicesAnswerInOrder : Prop :=
  ∀ (ds : List Device) (world : Nat), risingAddresses ds = true →
    let r : Registry := { devices := .declared ds, world := world }
    (∀ (a b : Addr) (n : Nat), (readTimes a n r).has b = true ↔ ∃ w ∈ ds, w.addr = b) ∧
    (∀ v ∈ ds, ∀ n : Nat, (readTimes v.addr n r).byte v.addr = v.bytes.getD n 0xFF#8) ∧
    (∀ v ∈ ds, ∀ (a : Addr) (m n : Nat), a ≠ v.addr →
      (readTimes v.addr n (readTimes a m r)).byte v.addr = v.bytes.getD n 0xFF#8)

/-- R191 (D30), R30 (D7): `create` gives the endpoint of R30 with the reference and the name recorded and makes no
registry call. That the registry's state is kept whatever the reference is (log 4), that the records are emptied
(log 6), that no handle is returned (log 7) and that it answers on a live or destroyed endpoint (log 8) are the model's
choices. -/
def Obligations.CreateGivesAFreshEndpoint : Prop :=
  ∀ (s : State) (ref : Handle) (label : Label), exec (.create ref label) s =
    .next { State.reset with
      registryRef := ref, busLabel := label, registry := s.registry, pending := s.pending }

/-- R196, R197 (D24), R198: the getters return what is stored, in every decoder state, and change nothing. -/
def Obligations.GettersReturnWhatIsStored : Prop :=
  ∀ s : State, s.life = .live →
    exec .getClockLevel s = .next { s with reply := .level s.clockLevel } ∧
    exec .getDataLevel s = .next { s with reply := .level s.dataLevel } ∧
    exec .getRegistryHandle s = .next { s with reply := .handle s.registryRef }

/-! ### Invariants -/

/-- R26: the invariants hold right after reset. -/
def Obligations.ResetMeetsTheInvariants : Prop :=
  EndpointInv State.reset ∧ HostOnly State.reset ∧ Bracketed State.reset ∧ State.reset.registry.wf = true

/-- R26 I-b to I-j: every step of the caller's operations keeps them, from every state that has them. -/
def Obligations.StepKeepsTheEndpointInvariants : Prop :=
  ∀ s t : State, EndpointInv s → HostOnly s → step s = .next t → EndpointInv t ∧ HostOnly t

/-- R236, R220: from every state with the invariants no `update` is refused: the endpoint "always remains live". -/
def Obligations.InvariantsKeepUpdateLive : Prop :=
  ∀ (s : State) (c d : Level), EndpointInv s → s.life = .live →
    ∃ t, exec (.update c d) s = .next t ∧ EndpointInv t

/-- R55, R213: every step keeps the history bracketed, with the endpoint's address the one the bracket has open. -/
def Obligations.StepKeepsTheHistoryBracketed : Prop :=
  ∀ s t : State, Bracketed s → NoForeignRegistryCall s → step s = .next t → Bracketed t

/-- The declared devices stay in canonical form (log 17). -/
def Obligations.StepKeepsTheRegistryCanonical : Prop :=
  ∀ s t : State, s.registry.wf = true → step s = .next t → t.registry.wf = true

/-! ### Bytes on the wire -/

/-- R42, R43, R73 (a), R106, R107, R166, R167: eight bits, most significant first, sent by the master's `WBYTE` after the
address byte of a write, reach the device at the current address as one `write_byte` of that byte, and are followed by
ACKNOWLEDGE; the first data byte moves the sub-state by `direction`. -/
def Obligations.ByteOnTheWireIsWrittenToTheDevice : Prop :=
  ∀ (s : State) (xx : Byte) (a : Addr), s.life = .live →
    s.decoderState = .receive ∨ s.decoderState = .receiveWait → s.bitPosition = 0 → s.clockLevel = false →
    s.transferState = .receiveAddress ∨ s.transferState = .receiveData → s.currentAddress = some a →
    ∃ t, runUpdates (wbyteToEighthBit xx) s = .next t ∧
      t.history = s.history ++ [.writeByte a xx] ∧ t.registry = s.registry.afterWrite a xx ∧
      t.shiftByte = xx ∧ t.decoderState = .acknowledge ∧ t.bitPosition = 8 ∧ t.currentAddress = some a ∧
      t.transferState =
        (if s.transferState = .receiveAddress ∧ s.direction = .read then .sendData else .receiveData) ∧
      t.trace = s.trace

/-- R42, R73 (b), R130, R131, R133, R134, after "Read transaction drives correct bits": eight rising clock edges drive the
prefetched byte, most significant bit first, and the next falling edge moves to TRANSACKNOWLEDGE. That the master's
released level is not latched over a bit is D13's, and that `shift_byte` ends as 0x00 is D16's. -/
def Obligations.ByteIsReadBackOnTheWire : Prop :=
  ∀ s : State, s.life = .live → s.decoderState = .transmitStart ∨ s.decoderState = .transmit →
    s.bitPosition = 0 → s.clockLevel = false →
    ∃ t, readLevels 8 s = some (disassembleByte s.shiftByte, t) ∧
      t.decoderState = .transacknowledge ∧ t.bitPosition = 8 ∧ t.shiftByte = 0x00#8 ∧
      t.history = s.history ∧ t.registry = s.registry ∧ t.currentAddress = s.currentAddress
end

