-- ==== Sys2Proof/Laws/State.lean ====
section
/-! SUPPORT. The small lemmas of the state and of the shared operations: for each operation, what each field is
afterwards, so that no later proof unfolds a record update. -/

namespace Sys2Proof.Machine

@[simp] theorem callHas_clockLevel (a : Addr) (s : State) : (callHas a s).clockLevel = s.clockLevel := rfl
@[simp] theorem callHas_dataLevel (a : Addr) (s : State) : (callHas a s).dataLevel = s.dataLevel := rfl
@[simp] theorem callHas_lastDataLevel (a : Addr) (s : State) : (callHas a s).lastDataLevel = s.lastDataLevel := rfl
@[simp] theorem callHas_decoderState (a : Addr) (s : State) : (callHas a s).decoderState = s.decoderState := rfl
@[simp] theorem callHas_transferState (a : Addr) (s : State) : (callHas a s).transferState = s.transferState := rfl
@[simp] theorem callHas_currentAddress (a : Addr) (s : State) : (callHas a s).currentAddress = s.currentAddress :=
  rfl
@[simp] theorem callHas_direction (a : Addr) (s : State) : (callHas a s).direction = s.direction := rfl
@[simp] theorem callHas_driveRole (a : Addr) (s : State) : (callHas a s).driveRole = s.driveRole := rfl
@[simp] theorem callHas_bitPosition (a : Addr) (s : State) : (callHas a s).bitPosition = s.bitPosition := rfl
@[simp] theorem callHas_shiftByte (a : Addr) (s : State) : (callHas a s).shiftByte = s.shiftByte := rfl
@[simp] theorem callHas_registryRef (a : Addr) (s : State) : (callHas a s).registryRef = s.registryRef := rfl
@[simp] theorem callHas_busLabel (a : Addr) (s : State) : (callHas a s).busLabel = s.busLabel := rfl
@[simp] theorem callHas_life (a : Addr) (s : State) : (callHas a s).life = s.life := rfl
@[simp] theorem callHas_registry (a : Addr) (s : State) : (callHas a s).registry = s.registry := rfl
@[simp] theorem callHas_history (a : Addr) (s : State) : (callHas a s).history = s.history ++ [.hasDevice a (s.registry.has a)] :=
  rfl
@[simp] theorem callHas_trace (a : Addr) (s : State) : (callHas a s).trace = s.trace := rfl
@[simp] theorem callHas_pending (a : Addr) (s : State) : (callHas a s).pending = s.pending := rfl
@[simp] theorem callHas_reply (a : Addr) (s : State) : (callHas a s).reply = s.reply := rfl

@[simp] theorem callStart_clockLevel (a : Addr) (s : State) : (callStart a s).clockLevel = s.clockLevel := rfl
@[simp] theorem callStart_dataLevel (a : Addr) (s : State) : (callStart a s).dataLevel = s.dataLevel := rfl
@[simp] theorem callStart_lastDataLevel (a : Addr) (s : State) : (callStart a s).lastDataLevel = s.lastDataLevel :=
  rfl
@[simp] theorem callStart_decoderState (a : Addr) (s : State) : (callStart a s).decoderState = s.decoderState :=
  rfl
@[simp] theorem callStart_transferState (a : Addr) (s : State) : (callStart a s).transferState = s.transferState :=
  rfl
@[simp] theorem callStart_currentAddress (a : Addr) (s : State) : (callStart a s).currentAddress = s.currentAddress :=
  rfl
@[simp] theorem callStart_direction (a : Addr) (s : State) : (callStart a s).direction = s.direction := rfl
@[simp] theorem callStart_driveRole (a : Addr) (s : State) : (callStart a s).driveRole = s.driveRole := rfl
@[simp] theorem callStart_bitPosition (a : Addr) (s : State) : (callStart a s).bitPosition = s.bitPosition := rfl
@[simp] theorem callStart_shiftByte (a : Addr) (s : State) : (callStart a s).shiftByte = s.shiftByte := rfl
@[simp] theorem callStart_registryRef (a : Addr) (s : State) : (callStart a s).registryRef = s.registryRef := rfl
@[simp] theorem callStart_busLabel (a : Addr) (s : State) : (callStart a s).busLabel = s.busLabel := rfl
@[simp] theorem callStart_life (a : Addr) (s : State) : (callStart a s).life = s.life := rfl
@[simp] theorem callStart_registry (a : Addr) (s : State) : (callStart a s).registry = s.registry.afterStart a :=
  rfl
@[simp] theorem callStart_history (a : Addr) (s : State) : (callStart a s).history = s.history ++ [.transactionStart a] :=
  rfl
@[simp] theorem callStart_trace (a : Addr) (s : State) : (callStart a s).trace = s.trace := rfl
@[simp] theorem callStart_pending (a : Addr) (s : State) : (callStart a s).pending = s.pending := rfl
@[simp] theorem callStart_reply (a : Addr) (s : State) : (callStart a s).reply = s.reply := rfl

@[simp] theorem callEnd_clockLevel (a : Addr) (s : State) : (callEnd a s).clockLevel = s.clockLevel := rfl
@[simp] theorem callEnd_dataLevel (a : Addr) (s : State) : (callEnd a s).dataLevel = s.dataLevel := rfl
@[simp] theorem callEnd_lastDataLevel (a : Addr) (s : State) : (callEnd a s).lastDataLevel = s.lastDataLevel := rfl
@[simp] theorem callEnd_decoderState (a : Addr) (s : State) : (callEnd a s).decoderState = s.decoderState := rfl
@[simp] theorem callEnd_transferState (a : Addr) (s : State) : (callEnd a s).transferState = s.transferState := rfl
@[simp] theorem callEnd_currentAddress (a : Addr) (s : State) : (callEnd a s).currentAddress = s.currentAddress :=
  rfl
@[simp] theorem callEnd_direction (a : Addr) (s : State) : (callEnd a s).direction = s.direction := rfl
@[simp] theorem callEnd_driveRole (a : Addr) (s : State) : (callEnd a s).driveRole = s.driveRole := rfl
@[simp] theorem callEnd_bitPosition (a : Addr) (s : State) : (callEnd a s).bitPosition = s.bitPosition := rfl
@[simp] theorem callEnd_shiftByte (a : Addr) (s : State) : (callEnd a s).shiftByte = s.shiftByte := rfl
@[simp] theorem callEnd_registryRef (a : Addr) (s : State) : (callEnd a s).registryRef = s.registryRef := rfl
@[simp] theorem callEnd_busLabel (a : Addr) (s : State) : (callEnd a s).busLabel = s.busLabel := rfl
@[simp] theorem callEnd_life (a : Addr) (s : State) : (callEnd a s).life = s.life := rfl
@[simp] theorem callEnd_registry (a : Addr) (s : State) : (callEnd a s).registry = s.registry.afterEnd a := rfl
@[simp] theorem callEnd_history (a : Addr) (s : State) : (callEnd a s).history = s.history ++ [.transactionEnd a] :=
  rfl
@[simp] theorem callEnd_trace (a : Addr) (s : State) : (callEnd a s).trace = s.trace := rfl
@[simp] theorem callEnd_pending (a : Addr) (s : State) : (callEnd a s).pending = s.pending := rfl
@[simp] theorem callEnd_reply (a : Addr) (s : State) : (callEnd a s).reply = s.reply := rfl

@[simp] theorem callRead_clockLevel (a : Addr) (s : State) : (callRead a s).clockLevel = s.clockLevel := rfl
@[simp] theorem callRead_dataLevel (a : Addr) (s : State) : (callRead a s).dataLevel = s.dataLevel := rfl
@[simp] theorem callRead_lastDataLevel (a : Addr) (s : State) : (callRead a s).lastDataLevel = s.lastDataLevel :=
  rfl
@[simp] theorem callRead_decoderState (a : Addr) (s : State) : (callRead a s).decoderState = s.decoderState := rfl
@[simp] theorem callRead_transferState (a : Addr) (s : State) : (callRead a s).transferState = s.transferState :=
  rfl
@[simp] theorem callRead_currentAddress (a : Addr) (s : State) : (callRead a s).currentAddress = s.currentAddress :=
  rfl
@[simp] theorem callRead_direction (a : Addr) (s : State) : (callRead a s).direction = s.direction := rfl
@[simp] theorem callRead_driveRole (a : Addr) (s : State) : (callRead a s).driveRole = s.driveRole := rfl
@[simp] theorem callRead_bitPosition (a : Addr) (s : State) : (callRead a s).bitPosition = s.bitPosition := rfl
@[simp] theorem callRead_shiftByte (a : Addr) (s : State) : (callRead a s).shiftByte = s.shiftByte := rfl
@[simp] theorem callRead_registryRef (a : Addr) (s : State) : (callRead a s).registryRef = s.registryRef := rfl
@[simp] theorem callRead_busLabel (a : Addr) (s : State) : (callRead a s).busLabel = s.busLabel := rfl
@[simp] theorem callRead_life (a : Addr) (s : State) : (callRead a s).life = s.life := rfl
@[simp] theorem callRead_registry (a : Addr) (s : State) : (callRead a s).registry = s.registry.afterRead a := rfl
@[simp] theorem callRead_history (a : Addr) (s : State) : (callRead a s).history = s.history ++ [.readByte a (s.registry.byte a)] :=
  rfl
@[simp] theorem callRead_trace (a : Addr) (s : State) : (callRead a s).trace = s.trace := rfl
@[simp] theorem callRead_pending (a : Addr) (s : State) : (callRead a s).pending = s.pending := rfl
@[simp] theorem callRead_reply (a : Addr) (s : State) : (callRead a s).reply = s.reply := rfl

@[simp] theorem callWrite_clockLevel (a : Addr) (b : Byte) (s : State) : (callWrite a b s).clockLevel = s.clockLevel :=
  rfl
@[simp] theorem callWrite_dataLevel (a : Addr) (b : Byte) (s : State) : (callWrite a b s).dataLevel = s.dataLevel :=
  rfl
@[simp] theorem callWrite_lastDataLevel (a : Addr) (b : Byte) (s : State) : (callWrite a b s).lastDataLevel = s.lastDataLevel :=
  rfl
@[simp] theorem callWrite_decoderState (a : Addr) (b : Byte) (s : State) : (callWrite a b s).decoderState = s.decoderState :=
  rfl
@[simp] theorem callWrite_transferState (a : Addr) (b : Byte) (s : State) : (callWrite a b s).transferState = s.transferState :=
  rfl
@[simp] theorem callWrite_currentAddress (a : Addr) (b : Byte) (s : State) : (callWrite a b s).currentAddress = s.currentAddress :=
  rfl
@[simp] theorem callWrite_direction (a : Addr) (b : Byte) (s : State) : (callWrite a b s).direction = s.direction :=
  rfl
@[simp] theorem callWrite_driveRole (a : Addr) (b : Byte) (s : State) : (callWrite a b s).driveRole = s.driveRole :=
  rfl
@[simp] theorem callWrite_bitPosition (a : Addr) (b : Byte) (s : State) : (callWrite a b s).bitPosition = s.bitPosition :=
  rfl
@[simp] theorem callWrite_shiftByte (a : Addr) (b : Byte) (s : State) : (callWrite a b s).shiftByte = s.shiftByte :=
  rfl
@[simp] theorem callWrite_registryRef (a : Addr) (b : Byte) (s : State) : (callWrite a b s).registryRef = s.registryRef :=
  rfl
@[simp] theorem callWrite_busLabel (a : Addr) (b : Byte) (s : State) : (callWrite a b s).busLabel = s.busLabel :=
  rfl
@[simp] theorem callWrite_life (a : Addr) (b : Byte) (s : State) : (callWrite a b s).life = s.life := rfl
@[simp] theorem callWrite_registry (a : Addr) (b : Byte) (s : State) : (callWrite a b s).registry = s.registry.afterWrite a b :=
  rfl
@[simp] theorem callWrite_history (a : Addr) (b : Byte) (s : State) : (callWrite a b s).history = s.history ++ [.writeByte a b] :=
  rfl
@[simp] theorem callWrite_trace (a : Addr) (b : Byte) (s : State) : (callWrite a b s).trace = s.trace := rfl
@[simp] theorem callWrite_pending (a : Addr) (b : Byte) (s : State) : (callWrite a b s).pending = s.pending := rfl
@[simp] theorem callWrite_reply (a : Addr) (b : Byte) (s : State) : (callWrite a b s).reply = s.reply := rfl

@[simp] theorem raiseAnomaly_clockLevel (x : Anomaly) (s : State) : (raiseAnomaly x s).clockLevel = s.clockLevel :=
  rfl
@[simp] theorem raiseAnomaly_dataLevel (x : Anomaly) (s : State) : (raiseAnomaly x s).dataLevel = s.dataLevel :=
  rfl
@[simp] theorem raiseAnomaly_lastDataLevel (x : Anomaly) (s : State) : (raiseAnomaly x s).lastDataLevel = s.lastDataLevel :=
  rfl
@[simp] theorem raiseAnomaly_decoderState (x : Anomaly) (s : State) : (raiseAnomaly x s).decoderState = s.decoderState :=
  rfl
@[simp] theorem raiseAnomaly_transferState (x : Anomaly) (s : State) : (raiseAnomaly x s).transferState = s.transferState :=
  rfl
@[simp] theorem raiseAnomaly_currentAddress (x : Anomaly) (s : State) : (raiseAnomaly x s).currentAddress = s.currentAddress :=
  rfl
@[simp] theorem raiseAnomaly_direction (x : Anomaly) (s : State) : (raiseAnomaly x s).direction = s.direction :=
  rfl
@[simp] theorem raiseAnomaly_driveRole (x : Anomaly) (s : State) : (raiseAnomaly x s).driveRole = s.driveRole :=
  rfl
@[simp] theorem raiseAnomaly_bitPosition (x : Anomaly) (s : State) : (raiseAnomaly x s).bitPosition = s.bitPosition :=
  rfl
@[simp] theorem raiseAnomaly_shiftByte (x : Anomaly) (s : State) : (raiseAnomaly x s).shiftByte = s.shiftByte :=
  rfl
@[simp] theorem raiseAnomaly_registryRef (x : Anomaly) (s : State) : (raiseAnomaly x s).registryRef = s.registryRef :=
  rfl
@[simp] theorem raiseAnomaly_busLabel (x : Anomaly) (s : State) : (raiseAnomaly x s).busLabel = s.busLabel := rfl
@[simp] theorem raiseAnomaly_life (x : Anomaly) (s : State) : (raiseAnomaly x s).life = s.life := rfl
@[simp] theorem raiseAnomaly_registry (x : Anomaly) (s : State) : (raiseAnomaly x s).registry = s.registry := rfl
@[simp] theorem raiseAnomaly_history (x : Anomaly) (s : State) : (raiseAnomaly x s).history = s.history := rfl
@[simp] theorem raiseAnomaly_trace (x : Anomaly) (s : State) : (raiseAnomaly x s).trace = s.trace ++ [x] := rfl
@[simp] theorem raiseAnomaly_pending (x : Anomaly) (s : State) : (raiseAnomaly x s).pending = s.pending := rfl
@[simp] theorem raiseAnomaly_reply (x : Anomaly) (s : State) : (raiseAnomaly x s).reply = s.reply := rfl

@[simp] theorem loadByte_clockLevel (a : Addr) (s : State) : (loadByte a s).clockLevel = s.clockLevel := rfl
@[simp] theorem loadByte_dataLevel (a : Addr) (s : State) : (loadByte a s).dataLevel = s.dataLevel := rfl
@[simp] theorem loadByte_lastDataLevel (a : Addr) (s : State) : (loadByte a s).lastDataLevel = s.lastDataLevel :=
  rfl
@[simp] theorem loadByte_decoderState (a : Addr) (s : State) : (loadByte a s).decoderState = s.decoderState := rfl
@[simp] theorem loadByte_transferState (a : Addr) (s : State) : (loadByte a s).transferState = s.transferState :=
  rfl
@[simp] theorem loadByte_currentAddress (a : Addr) (s : State) : (loadByte a s).currentAddress = s.currentAddress :=
  rfl
@[simp] theorem loadByte_direction (a : Addr) (s : State) : (loadByte a s).direction = s.direction := rfl
@[simp] theorem loadByte_driveRole (a : Addr) (s : State) : (loadByte a s).driveRole = s.driveRole := rfl
@[simp] theorem loadByte_bitPosition (a : Addr) (s : State) : (loadByte a s).bitPosition = s.bitPosition := rfl
@[simp] theorem loadByte_shiftByte (a : Addr) (s : State) : (loadByte a s).shiftByte = s.registry.byte a := rfl
@[simp] theorem loadByte_registryRef (a : Addr) (s : State) : (loadByte a s).registryRef = s.registryRef := rfl
@[simp] theorem loadByte_busLabel (a : Addr) (s : State) : (loadByte a s).busLabel = s.busLabel := rfl
@[simp] theorem loadByte_life (a : Addr) (s : State) : (loadByte a s).life = s.life := rfl
@[simp] theorem loadByte_registry (a : Addr) (s : State) : (loadByte a s).registry = s.registry.afterRead a := rfl
@[simp] theorem loadByte_history (a : Addr) (s : State) : (loadByte a s).history = s.history ++ [.readByte a (s.registry.byte a)] :=
  rfl
@[simp] theorem loadByte_trace (a : Addr) (s : State) : (loadByte a s).trace = s.trace := rfl
@[simp] theorem loadByte_pending (a : Addr) (s : State) : (loadByte a s).pending = s.pending := rfl
@[simp] theorem loadByte_reply (a : Addr) (s : State) : (loadByte a s).reply = s.reply := rfl

@[simp] theorem addressMiss_clockLevel (a : Addr) (s : State) : (addressMiss a s).clockLevel = s.clockLevel := rfl
@[simp] theorem addressMiss_dataLevel (a : Addr) (s : State) : (addressMiss a s).dataLevel = s.dataLevel := rfl
@[simp] theorem addressMiss_lastDataLevel (a : Addr) (s : State) : (addressMiss a s).lastDataLevel = s.lastDataLevel :=
  rfl
@[simp] theorem addressMiss_decoderState (a : Addr) (s : State) : (addressMiss a s).decoderState = s.decoderState :=
  rfl
@[simp] theorem addressMiss_transferState (a : Addr) (s : State) : (addressMiss a s).transferState = .invalid :=
  rfl
@[simp] theorem addressMiss_currentAddress (a : Addr) (s : State) : (addressMiss a s).currentAddress = s.currentAddress :=
  rfl
@[simp] theorem addressMiss_direction (a : Addr) (s : State) : (addressMiss a s).direction = .write := rfl
@[simp] theorem addressMiss_driveRole (a : Addr) (s : State) : (addressMiss a s).driveRole = .txMaster := rfl
@[simp] theorem addressMiss_bitPosition (a : Addr) (s : State) : (addressMiss a s).bitPosition = s.bitPosition :=
  rfl
@[simp] theorem addressMiss_shiftByte (a : Addr) (s : State) : (addressMiss a s).shiftByte = s.shiftByte := rfl
@[simp] theorem addressMiss_registryRef (a : Addr) (s : State) : (addressMiss a s).registryRef = s.registryRef :=
  rfl
@[simp] theorem addressMiss_busLabel (a : Addr) (s : State) : (addressMiss a s).busLabel = s.busLabel := rfl
@[simp] theorem addressMiss_life (a : Addr) (s : State) : (addressMiss a s).life = s.life := rfl
@[simp] theorem addressMiss_registry (a : Addr) (s : State) : (addressMiss a s).registry = s.registry := rfl
@[simp] theorem addressMiss_history (a : Addr) (s : State) : (addressMiss a s).history = s.history := rfl
@[simp] theorem addressMiss_trace (a : Addr) (s : State) : (addressMiss a s).trace = s.trace ++ [.unaddressedDevice a] :=
  rfl
@[simp] theorem addressMiss_pending (a : Addr) (s : State) : (addressMiss a s).pending = s.pending := rfl
@[simp] theorem addressMiss_reply (a : Addr) (s : State) : (addressMiss a s).reply = s.reply := rfl

@[simp] theorem writePath_clockLevel (s : State) : (writePath s).clockLevel = s.clockLevel := rfl
@[simp] theorem writePath_dataLevel (s : State) : (writePath s).dataLevel = s.dataLevel := rfl
@[simp] theorem writePath_lastDataLevel (s : State) : (writePath s).lastDataLevel = s.lastDataLevel := rfl
@[simp] theorem writePath_decoderState (s : State) : (writePath s).decoderState = s.decoderState := rfl
@[simp] theorem writePath_transferState (s : State) : (writePath s).transferState = .receiveAddress := rfl
@[simp] theorem writePath_currentAddress (s : State) : (writePath s).currentAddress = s.currentAddress := rfl
@[simp] theorem writePath_direction (s : State) : (writePath s).direction = .write := rfl
@[simp] theorem writePath_driveRole (s : State) : (writePath s).driveRole = .txMaster := rfl
@[simp] theorem writePath_bitPosition (s : State) : (writePath s).bitPosition = s.bitPosition := rfl
@[simp] theorem writePath_shiftByte (s : State) : (writePath s).shiftByte = s.shiftByte := rfl
@[simp] theorem writePath_registryRef (s : State) : (writePath s).registryRef = s.registryRef := rfl
@[simp] theorem writePath_busLabel (s : State) : (writePath s).busLabel = s.busLabel := rfl
@[simp] theorem writePath_life (s : State) : (writePath s).life = s.life := rfl
@[simp] theorem writePath_registry (s : State) : (writePath s).registry = s.registry := rfl
@[simp] theorem writePath_history (s : State) : (writePath s).history = s.history := rfl
@[simp] theorem writePath_trace (s : State) : (writePath s).trace = s.trace := rfl
@[simp] theorem writePath_pending (s : State) : (writePath s).pending = s.pending := rfl
@[simp] theorem writePath_reply (s : State) : (writePath s).reply = s.reply := rfl

@[simp] theorem readPath_clockLevel (a : Addr) (s : State) : (readPath a s).clockLevel = s.clockLevel := rfl
@[simp] theorem readPath_dataLevel (a : Addr) (s : State) : (readPath a s).dataLevel = s.dataLevel := rfl
@[simp] theorem readPath_lastDataLevel (a : Addr) (s : State) : (readPath a s).lastDataLevel = s.lastDataLevel :=
  rfl
@[simp] theorem readPath_decoderState (a : Addr) (s : State) : (readPath a s).decoderState = s.decoderState := rfl
@[simp] theorem readPath_transferState (a : Addr) (s : State) : (readPath a s).transferState = .sendData := rfl
@[simp] theorem readPath_currentAddress (a : Addr) (s : State) : (readPath a s).currentAddress = s.currentAddress :=
  rfl
@[simp] theorem readPath_direction (a : Addr) (s : State) : (readPath a s).direction = .read := rfl
@[simp] theorem readPath_driveRole (a : Addr) (s : State) : (readPath a s).driveRole = .txSlave := rfl
@[simp] theorem readPath_bitPosition (a : Addr) (s : State) : (readPath a s).bitPosition = s.bitPosition := rfl
@[simp] theorem readPath_shiftByte (a : Addr) (s : State) : (readPath a s).shiftByte = s.registry.byte a := rfl
@[simp] theorem readPath_registryRef (a : Addr) (s : State) : (readPath a s).registryRef = s.registryRef := rfl
@[simp] theorem readPath_busLabel (a : Addr) (s : State) : (readPath a s).busLabel = s.busLabel := rfl
@[simp] theorem readPath_life (a : Addr) (s : State) : (readPath a s).life = s.life := rfl
@[simp] theorem readPath_registry (a : Addr) (s : State) : (readPath a s).registry = s.registry.afterRead a := rfl
@[simp] theorem readPath_history (a : Addr) (s : State) : (readPath a s).history = s.history ++ [.readByte a (s.registry.byte a)] :=
  rfl
@[simp] theorem readPath_trace (a : Addr) (s : State) : (readPath a s).trace = s.trace := rfl
@[simp] theorem readPath_pending (a : Addr) (s : State) : (readPath a s).pending = s.pending := rfl
@[simp] theorem readPath_reply (a : Addr) (s : State) : (readPath a s).reply = s.reply := rfl

@[simp] theorem returnNothing_clockLevel (s : State) : (returnNothing s).clockLevel = s.clockLevel := rfl
@[simp] theorem returnNothing_dataLevel (s : State) : (returnNothing s).dataLevel = s.dataLevel := rfl
@[simp] theorem returnNothing_lastDataLevel (s : State) : (returnNothing s).lastDataLevel = s.lastDataLevel := rfl
@[simp] theorem returnNothing_decoderState (s : State) : (returnNothing s).decoderState = s.decoderState := rfl
@[simp] theorem returnNothing_transferState (s : State) : (returnNothing s).transferState = s.transferState := rfl
@[simp] theorem returnNothing_currentAddress (s : State) : (returnNothing s).currentAddress = s.currentAddress :=
  rfl
@[simp] theorem returnNothing_direction (s : State) : (returnNothing s).direction = s.direction := rfl
@[simp] theorem returnNothing_driveRole (s : State) : (returnNothing s).driveRole = s.driveRole := rfl
@[simp] theorem returnNothing_bitPosition (s : State) : (returnNothing s).bitPosition = s.bitPosition := rfl
@[simp] theorem returnNothing_shiftByte (s : State) : (returnNothing s).shiftByte = s.shiftByte := rfl
@[simp] theorem returnNothing_registryRef (s : State) : (returnNothing s).registryRef = s.registryRef := rfl
@[simp] theorem returnNothing_busLabel (s : State) : (returnNothing s).busLabel = s.busLabel := rfl
@[simp] theorem returnNothing_life (s : State) : (returnNothing s).life = s.life := rfl
@[simp] theorem returnNothing_registry (s : State) : (returnNothing s).registry = s.registry := rfl
@[simp] theorem returnNothing_history (s : State) : (returnNothing s).history = s.history := rfl
@[simp] theorem returnNothing_trace (s : State) : (returnNothing s).trace = s.trace := rfl
@[simp] theorem returnNothing_pending (s : State) : (returnNothing s).pending = s.pending := rfl
@[simp] theorem returnNothing_reply (s : State) : (returnNothing s).reply = .nothing := rfl

@[simp] theorem epilogue_clockLevel (pc c d out : Level) (s : State) : (epilogue pc c d out s).clockLevel = c :=
  rfl
@[simp] theorem epilogue_dataLevel (pc c d out : Level) (s : State) : (epilogue pc c d out s).dataLevel = if rise pc c then out else s.dataLevel :=
  rfl
@[simp] theorem epilogue_lastDataLevel (pc c d out : Level) (s : State) : (epilogue pc c d out s).lastDataLevel = d :=
  rfl
@[simp] theorem epilogue_decoderState (pc c d out : Level) (s : State) : (epilogue pc c d out s).decoderState = s.decoderState :=
  rfl
@[simp] theorem epilogue_transferState (pc c d out : Level) (s : State) : (epilogue pc c d out s).transferState = s.transferState :=
  rfl
@[simp] theorem epilogue_currentAddress (pc c d out : Level) (s : State) : (epilogue pc c d out s).currentAddress = s.currentAddress :=
  rfl
@[simp] theorem epilogue_direction (pc c d out : Level) (s : State) : (epilogue pc c d out s).direction = s.direction :=
  rfl
@[simp] theorem epilogue_driveRole (pc c d out : Level) (s : State) : (epilogue pc c d out s).driveRole = s.driveRole :=
  rfl
@[simp] theorem epilogue_bitPosition (pc c d out : Level) (s : State) : (epilogue pc c d out s).bitPosition = s.bitPosition :=
  rfl
@[simp] theorem epilogue_shiftByte (pc c d out : Level) (s : State) : (epilogue pc c d out s).shiftByte = s.shiftByte :=
  rfl
@[simp] theorem epilogue_registryRef (pc c d out : Level) (s : State) : (epilogue pc c d out s).registryRef = s.registryRef :=
  rfl
@[simp] theorem epilogue_busLabel (pc c d out : Level) (s : State) : (epilogue pc c d out s).busLabel = s.busLabel :=
  rfl
@[simp] theorem epilogue_life (pc c d out : Level) (s : State) : (epilogue pc c d out s).life = s.life := rfl
@[simp] theorem epilogue_registry (pc c d out : Level) (s : State) : (epilogue pc c d out s).registry = s.registry :=
  rfl
@[simp] theorem epilogue_history (pc c d out : Level) (s : State) : (epilogue pc c d out s).history = s.history :=
  rfl
@[simp] theorem epilogue_trace (pc c d out : Level) (s : State) : (epilogue pc c d out s).trace = s.trace := rfl
@[simp] theorem epilogue_pending (pc c d out : Level) (s : State) : (epilogue pc c d out s).pending = s.pending :=
  rfl
@[simp] theorem epilogue_reply (pc c d out : Level) (s : State) : (epilogue pc c d out s).reply = .nothing := rfl

@[simp] theorem earlyReturn_clockLevel (c d : Level) (s : State) : (earlyReturn c d s).clockLevel = c := rfl
@[simp] theorem earlyReturn_dataLevel (c d : Level) (s : State) : (earlyReturn c d s).dataLevel = s.dataLevel :=
  rfl
@[simp] theorem earlyReturn_lastDataLevel (c d : Level) (s : State) : (earlyReturn c d s).lastDataLevel = d := rfl
@[simp] theorem earlyReturn_decoderState (c d : Level) (s : State) : (earlyReturn c d s).decoderState = s.decoderState :=
  rfl
@[simp] theorem earlyReturn_transferState (c d : Level) (s : State) : (earlyReturn c d s).transferState = s.transferState :=
  rfl
@[simp] theorem earlyReturn_currentAddress (c d : Level) (s : State) : (earlyReturn c d s).currentAddress = s.currentAddress :=
  rfl
@[simp] theorem earlyReturn_direction (c d : Level) (s : State) : (earlyReturn c d s).direction = s.direction :=
  rfl
@[simp] theorem earlyReturn_driveRole (c d : Level) (s : State) : (earlyReturn c d s).driveRole = s.driveRole :=
  rfl
@[simp] theorem earlyReturn_bitPosition (c d : Level) (s : State) : (earlyReturn c d s).bitPosition = s.bitPosition :=
  rfl
@[simp] theorem earlyReturn_shiftByte (c d : Level) (s : State) : (earlyReturn c d s).shiftByte = s.shiftByte :=
  rfl
@[simp] theorem earlyReturn_registryRef (c d : Level) (s : State) : (earlyReturn c d s).registryRef = s.registryRef :=
  rfl
@[simp] theorem earlyReturn_busLabel (c d : Level) (s : State) : (earlyReturn c d s).busLabel = s.busLabel := rfl
@[simp] theorem earlyReturn_life (c d : Level) (s : State) : (earlyReturn c d s).life = s.life := rfl
@[simp] theorem earlyReturn_registry (c d : Level) (s : State) : (earlyReturn c d s).registry = s.registry := rfl
@[simp] theorem earlyReturn_history (c d : Level) (s : State) : (earlyReturn c d s).history = s.history := rfl
@[simp] theorem earlyReturn_trace (c d : Level) (s : State) : (earlyReturn c d s).trace = s.trace := rfl
@[simp] theorem earlyReturn_pending (c d : Level) (s : State) : (earlyReturn c d s).pending = s.pending := rfl
@[simp] theorem earlyReturn_reply (c d : Level) (s : State) : (earlyReturn c d s).reply = .nothing := rfl

@[simp] theorem openReception_clockLevel (s : State) : (openReception s).clockLevel = s.clockLevel := rfl
@[simp] theorem openReception_dataLevel (s : State) : (openReception s).dataLevel = s.dataLevel := rfl
@[simp] theorem openReception_lastDataLevel (s : State) : (openReception s).lastDataLevel = s.lastDataLevel := rfl
@[simp] theorem openReception_decoderState (s : State) : (openReception s).decoderState = .receive := rfl
@[simp] theorem openReception_transferState (s : State) : (openReception s).transferState = s.transferState := rfl
@[simp] theorem openReception_currentAddress (s : State) : (openReception s).currentAddress = s.currentAddress :=
  rfl
@[simp] theorem openReception_direction (s : State) : (openReception s).direction = s.direction := rfl
@[simp] theorem openReception_driveRole (s : State) : (openReception s).driveRole = s.driveRole := rfl
@[simp] theorem openReception_bitPosition (s : State) : (openReception s).bitPosition = 0 := rfl
@[simp] theorem openReception_shiftByte (s : State) : (openReception s).shiftByte = s.shiftByte := rfl
@[simp] theorem openReception_registryRef (s : State) : (openReception s).registryRef = s.registryRef := rfl
@[simp] theorem openReception_busLabel (s : State) : (openReception s).busLabel = s.busLabel := rfl
@[simp] theorem openReception_life (s : State) : (openReception s).life = s.life := rfl
@[simp] theorem openReception_registry (s : State) : (openReception s).registry = s.registry := rfl
@[simp] theorem openReception_history (s : State) : (openReception s).history = s.history := rfl
@[simp] theorem openReception_trace (s : State) : (openReception s).trace = s.trace := rfl
@[simp] theorem openReception_pending (s : State) : (openReception s).pending = s.pending := rfl
@[simp] theorem openReception_reply (s : State) : (openReception s).reply = s.reply := rfl

@[simp] theorem sampleBit_clockLevel (d : Level) (s : State) : (sampleBit d s).clockLevel = s.clockLevel := rfl
@[simp] theorem sampleBit_dataLevel (d : Level) (s : State) : (sampleBit d s).dataLevel = s.dataLevel := rfl
@[simp] theorem sampleBit_lastDataLevel (d : Level) (s : State) : (sampleBit d s).lastDataLevel = s.lastDataLevel :=
  rfl
@[simp] theorem sampleBit_decoderState (d : Level) (s : State) : (sampleBit d s).decoderState = .receive := rfl
@[simp] theorem sampleBit_transferState (d : Level) (s : State) : (sampleBit d s).transferState = s.transferState :=
  rfl
@[simp] theorem sampleBit_currentAddress (d : Level) (s : State) : (sampleBit d s).currentAddress = s.currentAddress :=
  rfl
@[simp] theorem sampleBit_direction (d : Level) (s : State) : (sampleBit d s).direction = s.direction := rfl
@[simp] theorem sampleBit_driveRole (d : Level) (s : State) : (sampleBit d s).driveRole = s.driveRole := rfl
@[simp] theorem sampleBit_bitPosition (d : Level) (s : State) : (sampleBit d s).bitPosition = s.bitPosition + 1 :=
  rfl
@[simp] theorem sampleBit_shiftByte (d : Level) (s : State) : (sampleBit d s).shiftByte = shiftIn s.shiftByte d :=
  rfl
@[simp] theorem sampleBit_registryRef (d : Level) (s : State) : (sampleBit d s).registryRef = s.registryRef := rfl
@[simp] theorem sampleBit_busLabel (d : Level) (s : State) : (sampleBit d s).busLabel = s.busLabel := rfl
@[simp] theorem sampleBit_life (d : Level) (s : State) : (sampleBit d s).life = s.life := rfl
@[simp] theorem sampleBit_registry (d : Level) (s : State) : (sampleBit d s).registry = s.registry := rfl
@[simp] theorem sampleBit_history (d : Level) (s : State) : (sampleBit d s).history = s.history := rfl
@[simp] theorem sampleBit_trace (d : Level) (s : State) : (sampleBit d s).trace = s.trace := rfl
@[simp] theorem sampleBit_pending (d : Level) (s : State) : (sampleBit d s).pending = s.pending := rfl
@[simp] theorem sampleBit_reply (d : Level) (s : State) : (sampleBit d s).reply = s.reply := rfl

@[simp] theorem repeatedStart_clockLevel (s : State) : (repeatedStart s).clockLevel = s.clockLevel := rfl
@[simp] theorem repeatedStart_dataLevel (s : State) : (repeatedStart s).dataLevel = s.dataLevel := rfl
@[simp] theorem repeatedStart_lastDataLevel (s : State) : (repeatedStart s).lastDataLevel = s.lastDataLevel := rfl
@[simp] theorem repeatedStart_decoderState (s : State) : (repeatedStart s).decoderState = s.decoderState := rfl
@[simp] theorem repeatedStart_transferState (s : State) : (repeatedStart s).transferState = .idle := rfl
@[simp] theorem repeatedStart_currentAddress (s : State) : (repeatedStart s).currentAddress = s.currentAddress :=
  rfl
@[simp] theorem repeatedStart_direction (s : State) : (repeatedStart s).direction = s.direction := rfl
@[simp] theorem repeatedStart_driveRole (s : State) : (repeatedStart s).driveRole = s.driveRole := rfl
@[simp] theorem repeatedStart_bitPosition (s : State) : (repeatedStart s).bitPosition = 0 := rfl
@[simp] theorem repeatedStart_shiftByte (s : State) : (repeatedStart s).shiftByte = s.shiftByte := rfl
@[simp] theorem repeatedStart_registryRef (s : State) : (repeatedStart s).registryRef = s.registryRef := rfl
@[simp] theorem repeatedStart_busLabel (s : State) : (repeatedStart s).busLabel = s.busLabel := rfl
@[simp] theorem repeatedStart_life (s : State) : (repeatedStart s).life = s.life := rfl
@[simp] theorem repeatedStart_registry (s : State) : (repeatedStart s).registry = s.registry := rfl
@[simp] theorem repeatedStart_history (s : State) : (repeatedStart s).history = s.history := rfl
@[simp] theorem repeatedStart_trace (s : State) : (repeatedStart s).trace = s.trace := rfl
@[simp] theorem repeatedStart_pending (s : State) : (repeatedStart s).pending = s.pending := rfl
@[simp] theorem repeatedStart_reply (s : State) : (repeatedStart s).reply = s.reply := rfl

@[simp] theorem driveBit_clockLevel (s : State) : (driveBit s).clockLevel = s.clockLevel := rfl
@[simp] theorem driveBit_dataLevel (s : State) : (driveBit s).dataLevel = outgoingBit s.shiftByte := rfl
@[simp] theorem driveBit_lastDataLevel (s : State) : (driveBit s).lastDataLevel = s.lastDataLevel := rfl
@[simp] theorem driveBit_decoderState (s : State) : (driveBit s).decoderState = .transmit := rfl
@[simp] theorem driveBit_transferState (s : State) : (driveBit s).transferState = s.transferState := rfl
@[simp] theorem driveBit_currentAddress (s : State) : (driveBit s).currentAddress = s.currentAddress := rfl
@[simp] theorem driveBit_direction (s : State) : (driveBit s).direction = s.direction := rfl
@[simp] theorem driveBit_driveRole (s : State) : (driveBit s).driveRole = s.driveRole := rfl
@[simp] theorem driveBit_bitPosition (s : State) : (driveBit s).bitPosition = s.bitPosition + 1 := rfl
@[simp] theorem driveBit_shiftByte (s : State) : (driveBit s).shiftByte = shiftIn s.shiftByte false := rfl
@[simp] theorem driveBit_registryRef (s : State) : (driveBit s).registryRef = s.registryRef := rfl
@[simp] theorem driveBit_busLabel (s : State) : (driveBit s).busLabel = s.busLabel := rfl
@[simp] theorem driveBit_life (s : State) : (driveBit s).life = s.life := rfl
@[simp] theorem driveBit_registry (s : State) : (driveBit s).registry = s.registry := rfl
@[simp] theorem driveBit_history (s : State) : (driveBit s).history = s.history := rfl
@[simp] theorem driveBit_trace (s : State) : (driveBit s).trace = s.trace := rfl
@[simp] theorem driveBit_pending (s : State) : (driveBit s).pending = s.pending := rfl
@[simp] theorem driveBit_reply (s : State) : (driveBit s).reply = s.reply := rfl

@[simp] theorem endTransaction_clockLevel (s : State) : (endTransaction s).clockLevel = s.clockLevel :=
  by unfold endTransaction endIfOpen; split <;> rfl
@[simp] theorem endTransaction_dataLevel (s : State) : (endTransaction s).dataLevel = s.dataLevel :=
  by unfold endTransaction endIfOpen; split <;> rfl
@[simp] theorem endTransaction_lastDataLevel (s : State) : (endTransaction s).lastDataLevel = s.lastDataLevel :=
  by unfold endTransaction endIfOpen; split <;> rfl
@[simp] theorem endTransaction_decoderState (s : State) : (endTransaction s).decoderState = s.decoderState :=
  by unfold endTransaction endIfOpen; split <;> rfl
@[simp] theorem endTransaction_transferState (s : State) : (endTransaction s).transferState = .idle := rfl
@[simp] theorem endTransaction_currentAddress (s : State) : (endTransaction s).currentAddress = none := rfl
@[simp] theorem endTransaction_direction (s : State) : (endTransaction s).direction = .write := rfl
@[simp] theorem endTransaction_driveRole (s : State) : (endTransaction s).driveRole = .txMaster := rfl
@[simp] theorem endTransaction_bitPosition (s : State) : (endTransaction s).bitPosition = s.bitPosition :=
  by unfold endTransaction endIfOpen; split <;> rfl
@[simp] theorem endTransaction_shiftByte (s : State) : (endTransaction s).shiftByte = s.shiftByte :=
  by unfold endTransaction endIfOpen; split <;> rfl
@[simp] theorem endTransaction_registryRef (s : State) : (endTransaction s).registryRef = s.registryRef :=
  by unfold endTransaction endIfOpen; split <;> rfl
@[simp] theorem endTransaction_busLabel (s : State) : (endTransaction s).busLabel = s.busLabel :=
  by unfold endTransaction endIfOpen; split <;> rfl
@[simp] theorem endTransaction_life (s : State) : (endTransaction s).life = s.life :=
  by unfold endTransaction endIfOpen; split <;> rfl
@[simp] theorem endTransaction_trace (s : State) : (endTransaction s).trace = s.trace :=
  by unfold endTransaction endIfOpen; split <;> rfl
@[simp] theorem endTransaction_pending (s : State) : (endTransaction s).pending = s.pending :=
  by unfold endTransaction endIfOpen; split <;> rfl
@[simp] theorem endTransaction_reply (s : State) : (endTransaction s).reply = s.reply :=
  by unfold endTransaction endIfOpen; split <;> rfl

@[simp] theorem stopAction_clockLevel (s : State) : (stopAction s).clockLevel = s.clockLevel :=
  by simp [stopAction]
@[simp] theorem stopAction_dataLevel (s : State) : (stopAction s).dataLevel = s.dataLevel := by simp [stopAction]
@[simp] theorem stopAction_lastDataLevel (s : State) : (stopAction s).lastDataLevel = s.lastDataLevel :=
  by simp [stopAction]
@[simp] theorem stopAction_decoderState (s : State) : (stopAction s).decoderState = .idle := rfl
@[simp] theorem stopAction_transferState (s : State) : (stopAction s).transferState = .idle := rfl
@[simp] theorem stopAction_currentAddress (s : State) : (stopAction s).currentAddress = none := rfl
@[simp] theorem stopAction_direction (s : State) : (stopAction s).direction = .write := rfl
@[simp] theorem stopAction_driveRole (s : State) : (stopAction s).driveRole = .txMaster := rfl
@[simp] theorem stopAction_bitPosition (s : State) : (stopAction s).bitPosition = s.bitPosition :=
  by simp [stopAction]
@[simp] theorem stopAction_shiftByte (s : State) : (stopAction s).shiftByte = s.shiftByte := by simp [stopAction]
@[simp] theorem stopAction_registryRef (s : State) : (stopAction s).registryRef = s.registryRef :=
  by simp [stopAction]
@[simp] theorem stopAction_busLabel (s : State) : (stopAction s).busLabel = s.busLabel := by simp [stopAction]
@[simp] theorem stopAction_life (s : State) : (stopAction s).life = s.life := by simp [stopAction]
@[simp] theorem stopAction_trace (s : State) : (stopAction s).trace = s.trace := by simp [stopAction]
@[simp] theorem stopAction_pending (s : State) : (stopAction s).pending = s.pending := by simp [stopAction]
@[simp] theorem stopAction_reply (s : State) : (stopAction s).reply = s.reply := by simp [stopAction]

@[simp] theorem openTransaction_clockLevel (a : Addr) (s : State) : (openTransaction a s).clockLevel = s.clockLevel :=
  by unfold openTransaction; split <;> rfl
@[simp] theorem openTransaction_dataLevel (a : Addr) (s : State) : (openTransaction a s).dataLevel = s.dataLevel :=
  by unfold openTransaction; split <;> rfl
@[simp] theorem openTransaction_lastDataLevel (a : Addr) (s : State) : (openTransaction a s).lastDataLevel = s.lastDataLevel :=
  by unfold openTransaction; split <;> rfl
@[simp] theorem openTransaction_decoderState (a : Addr) (s : State) : (openTransaction a s).decoderState = s.decoderState :=
  by unfold openTransaction; split <;> rfl
@[simp] theorem openTransaction_transferState (a : Addr) (s : State) : (openTransaction a s).transferState = s.transferState :=
  by unfold openTransaction; split <;> rfl
@[simp] theorem openTransaction_currentAddress (a : Addr) (s : State) : (openTransaction a s).currentAddress = some a :=
  by unfold openTransaction; split <;> rfl
@[simp] theorem openTransaction_direction (a : Addr) (s : State) : (openTransaction a s).direction = s.direction :=
  by unfold openTransaction; split <;> rfl
@[simp] theorem openTransaction_driveRole (a : Addr) (s : State) : (openTransaction a s).driveRole = s.driveRole :=
  by unfold openTransaction; split <;> rfl
@[simp] theorem openTransaction_bitPosition (a : Addr) (s : State) : (openTransaction a s).bitPosition = s.bitPosition :=
  by unfold openTransaction; split <;> rfl
@[simp] theorem openTransaction_shiftByte (a : Addr) (s : State) : (openTransaction a s).shiftByte = s.shiftByte :=
  by unfold openTransaction; split <;> rfl
@[simp] theorem openTransaction_registryRef (a : Addr) (s : State) : (openTransaction a s).registryRef = s.registryRef :=
  by unfold openTransaction; split <;> rfl
@[simp] theorem openTransaction_busLabel (a : Addr) (s : State) : (openTransaction a s).busLabel = s.busLabel :=
  by unfold openTransaction; split <;> rfl
@[simp] theorem openTransaction_life (a : Addr) (s : State) : (openTransaction a s).life = s.life :=
  by unfold openTransaction; split <;> rfl
@[simp] theorem openTransaction_trace (a : Addr) (s : State) : (openTransaction a s).trace = s.trace :=
  by unfold openTransaction; split <;> rfl
@[simp] theorem openTransaction_pending (a : Addr) (s : State) : (openTransaction a s).pending = s.pending :=
  by unfold openTransaction; split <;> rfl
@[simp] theorem openTransaction_reply (a : Addr) (s : State) : (openTransaction a s).reply = s.reply :=
  by unfold openTransaction; split <;> rfl

@[simp] theorem forwardByte_clockLevel (b : Byte) (s : State) : (forwardByte b s).clockLevel = s.clockLevel :=
  by unfold forwardByte; split <;> rfl
@[simp] theorem forwardByte_dataLevel (b : Byte) (s : State) : (forwardByte b s).dataLevel = s.dataLevel :=
  by unfold forwardByte; split <;> rfl
@[simp] theorem forwardByte_lastDataLevel (b : Byte) (s : State) : (forwardByte b s).lastDataLevel = s.lastDataLevel :=
  by unfold forwardByte; split <;> rfl
@[simp] theorem forwardByte_decoderState (b : Byte) (s : State) : (forwardByte b s).decoderState = s.decoderState :=
  by unfold forwardByte; split <;> rfl
@[simp] theorem forwardByte_transferState (b : Byte) (s : State) : (forwardByte b s).transferState = s.transferState :=
  by unfold forwardByte; split <;> rfl
@[simp] theorem forwardByte_currentAddress (b : Byte) (s : State) : (forwardByte b s).currentAddress = s.currentAddress :=
  by unfold forwardByte; split <;> rfl
@[simp] theorem forwardByte_direction (b : Byte) (s : State) : (forwardByte b s).direction = s.direction :=
  by unfold forwardByte; split <;> rfl
@[simp] theorem forwardByte_driveRole (b : Byte) (s : State) : (forwardByte b s).driveRole = s.driveRole :=
  by unfold forwardByte; split <;> rfl
@[simp] theorem forwardByte_bitPosition (b : Byte) (s : State) : (forwardByte b s).bitPosition = s.bitPosition :=
  by unfold forwardByte; split <;> rfl
@[simp] theorem forwardByte_shiftByte (b : Byte) (s : State) : (forwardByte b s).shiftByte = s.shiftByte :=
  by unfold forwardByte; split <;> rfl
@[simp] theorem forwardByte_registryRef (b : Byte) (s : State) : (forwardByte b s).registryRef = s.registryRef :=
  by unfold forwardByte; split <;> rfl
@[simp] theorem forwardByte_busLabel (b : Byte) (s : State) : (forwardByte b s).busLabel = s.busLabel :=
  by unfold forwardByte; split <;> rfl
@[simp] theorem forwardByte_life (b : Byte) (s : State) : (forwardByte b s).life = s.life :=
  by unfold forwardByte; split <;> rfl
@[simp] theorem forwardByte_trace (b : Byte) (s : State) : (forwardByte b s).trace = s.trace :=
  by unfold forwardByte; split <;> rfl
@[simp] theorem forwardByte_pending (b : Byte) (s : State) : (forwardByte b s).pending = s.pending :=
  by unfold forwardByte; split <;> rfl
@[simp] theorem forwardByte_reply (b : Byte) (s : State) : (forwardByte b s).reply = s.reply :=
  by unfold forwardByte; split <;> rfl

@[simp] theorem consumeFirstData_clockLevel (b : Byte) (s : State) : (consumeFirstData b s).clockLevel = s.clockLevel :=
  by simp [consumeFirstData]
@[simp] theorem consumeFirstData_dataLevel (b : Byte) (s : State) : (consumeFirstData b s).dataLevel = s.dataLevel :=
  by simp [consumeFirstData]
@[simp] theorem consumeFirstData_lastDataLevel (b : Byte) (s : State) : (consumeFirstData b s).lastDataLevel = s.lastDataLevel :=
  by simp [consumeFirstData]
@[simp] theorem consumeFirstData_decoderState (b : Byte) (s : State) : (consumeFirstData b s).decoderState = s.decoderState :=
  by simp [consumeFirstData]
@[simp] theorem consumeFirstData_currentAddress (b : Byte) (s : State) : (consumeFirstData b s).currentAddress = s.currentAddress :=
  by simp [consumeFirstData]
@[simp] theorem consumeFirstData_direction (b : Byte) (s : State) : (consumeFirstData b s).direction = s.direction :=
  by simp [consumeFirstData]
@[simp] theorem consumeFirstData_driveRole (b : Byte) (s : State) : (consumeFirstData b s).driveRole = s.driveRole :=
  by simp [consumeFirstData]
@[simp] theorem consumeFirstData_bitPosition (b : Byte) (s : State) : (consumeFirstData b s).bitPosition = s.bitPosition :=
  by simp [consumeFirstData]
@[simp] theorem consumeFirstData_shiftByte (b : Byte) (s : State) : (consumeFirstData b s).shiftByte = s.shiftByte :=
  by simp [consumeFirstData]
@[simp] theorem consumeFirstData_registryRef (b : Byte) (s : State) : (consumeFirstData b s).registryRef = s.registryRef :=
  by simp [consumeFirstData]
@[simp] theorem consumeFirstData_busLabel (b : Byte) (s : State) : (consumeFirstData b s).busLabel = s.busLabel :=
  by simp [consumeFirstData]
@[simp] theorem consumeFirstData_life (b : Byte) (s : State) : (consumeFirstData b s).life = s.life :=
  by simp [consumeFirstData]
@[simp] theorem consumeFirstData_trace (b : Byte) (s : State) : (consumeFirstData b s).trace = s.trace :=
  by simp [consumeFirstData]
@[simp] theorem consumeFirstData_pending (b : Byte) (s : State) : (consumeFirstData b s).pending = s.pending :=
  by simp [consumeFirstData]
@[simp] theorem consumeFirstData_reply (b : Byte) (s : State) : (consumeFirstData b s).reply = s.reply :=
  by simp [consumeFirstData]

@[simp] theorem consumeAddress_clockLevel (a : Addr) (r : Bool) (s : State) :
    (consumeAddress a r s).clockLevel = s.clockLevel := by unfold consumeAddress; split <;> [split; skip] <;> simp
@[simp] theorem consumeAddress_dataLevel (a : Addr) (r : Bool) (s : State) :
    (consumeAddress a r s).dataLevel = s.dataLevel := by unfold consumeAddress; split <;> [split; skip] <;> simp
@[simp] theorem consumeAddress_lastDataLevel (a : Addr) (r : Bool) (s : State) :
    (consumeAddress a r s).lastDataLevel = s.lastDataLevel := by unfold consumeAddress; split <;> [split; skip] <;> simp
@[simp] theorem consumeAddress_decoderState (a : Addr) (r : Bool) (s : State) :
    (consumeAddress a r s).decoderState = s.decoderState := by unfold consumeAddress; split <;> [split; skip] <;> simp
@[simp] theorem consumeAddress_bitPosition (a : Addr) (r : Bool) (s : State) :
    (consumeAddress a r s).bitPosition = s.bitPosition := by unfold consumeAddress; split <;> [split; skip] <;> simp
@[simp] theorem consumeAddress_registryRef (a : Addr) (r : Bool) (s : State) :
    (consumeAddress a r s).registryRef = s.registryRef := by unfold consumeAddress; split <;> [split; skip] <;> simp
@[simp] theorem consumeAddress_busLabel (a : Addr) (r : Bool) (s : State) :
    (consumeAddress a r s).busLabel = s.busLabel := by unfold consumeAddress; split <;> [split; skip] <;> simp
@[simp] theorem consumeAddress_life (a : Addr) (r : Bool) (s : State) :
    (consumeAddress a r s).life = s.life := by unfold consumeAddress; split <;> [split; skip] <;> simp
@[simp] theorem consumeAddress_pending (a : Addr) (r : Bool) (s : State) :
    (consumeAddress a r s).pending = s.pending := by unfold consumeAddress; split <;> [split; skip] <;> simp
@[simp] theorem consumeAddress_reply (a : Addr) (r : Bool) (s : State) :
    (consumeAddress a r s).reply = s.reply := by unfold consumeAddress; split <;> [split; skip] <;> simp

@[simp] theorem consumeByte_clockLevel (s : State) : (consumeByte s).clockLevel = s.clockLevel :=
  by unfold consumeByte; split <;> simp
@[simp] theorem consumeByte_dataLevel (s : State) : (consumeByte s).dataLevel = s.dataLevel :=
  by unfold consumeByte; split <;> simp
@[simp] theorem consumeByte_lastDataLevel (s : State) : (consumeByte s).lastDataLevel = s.lastDataLevel :=
  by unfold consumeByte; split <;> simp
@[simp] theorem consumeByte_decoderState (s : State) : (consumeByte s).decoderState = s.decoderState :=
  by unfold consumeByte; split <;> simp
@[simp] theorem consumeByte_bitPosition (s : State) : (consumeByte s).bitPosition = s.bitPosition :=
  by unfold consumeByte; split <;> simp
@[simp] theorem consumeByte_registryRef (s : State) : (consumeByte s).registryRef = s.registryRef :=
  by unfold consumeByte; split <;> simp
@[simp] theorem consumeByte_busLabel (s : State) : (consumeByte s).busLabel = s.busLabel :=
  by unfold consumeByte; split <;> simp
@[simp] theorem consumeByte_life (s : State) : (consumeByte s).life = s.life :=
  by unfold consumeByte; split <;> simp
@[simp] theorem consumeByte_pending (s : State) : (consumeByte s).pending = s.pending :=
  by unfold consumeByte; split <;> simp
@[simp] theorem consumeByte_reply (s : State) : (consumeByte s).reply = s.reply :=
  by unfold consumeByte; split <;> simp

@[simp] theorem nextByte_clockLevel (s : State) : (nextByte s).clockLevel = s.clockLevel :=
  by unfold nextByte; split <;> rfl
@[simp] theorem nextByte_dataLevel (s : State) : (nextByte s).dataLevel = s.dataLevel :=
  by unfold nextByte; split <;> rfl
@[simp] theorem nextByte_lastDataLevel (s : State) : (nextByte s).lastDataLevel = s.lastDataLevel :=
  by unfold nextByte; split <;> rfl
@[simp] theorem nextByte_decoderState (s : State) : (nextByte s).decoderState = s.decoderState :=
  by unfold nextByte; split <;> rfl
@[simp] theorem nextByte_transferState (s : State) : (nextByte s).transferState = s.transferState :=
  by unfold nextByte; split <;> rfl
@[simp] theorem nextByte_currentAddress (s : State) : (nextByte s).currentAddress = s.currentAddress :=
  by unfold nextByte; split <;> rfl
@[simp] theorem nextByte_direction (s : State) : (nextByte s).direction = s.direction :=
  by unfold nextByte; split <;> rfl
@[simp] theorem nextByte_driveRole (s : State) : (nextByte s).driveRole = s.driveRole :=
  by unfold nextByte; split <;> rfl
@[simp] theorem nextByte_bitPosition (s : State) : (nextByte s).bitPosition = s.bitPosition :=
  by unfold nextByte; split <;> rfl
@[simp] theorem nextByte_registryRef (s : State) : (nextByte s).registryRef = s.registryRef :=
  by unfold nextByte; split <;> rfl
@[simp] theorem nextByte_busLabel (s : State) : (nextByte s).busLabel = s.busLabel :=
  by unfold nextByte; split <;> rfl
@[simp] theorem nextByte_life (s : State) : (nextByte s).life = s.life := by unfold nextByte; split <;> rfl
@[simp] theorem nextByte_trace (s : State) : (nextByte s).trace = s.trace := by unfold nextByte; split <;> rfl
@[simp] theorem nextByte_pending (s : State) : (nextByte s).pending = s.pending :=
  by unfold nextByte; split <;> rfl
@[simp] theorem nextByte_reply (s : State) : (nextByte s).reply = s.reply := by unfold nextByte; split <;> rfl

@[simp] theorem fetchNext_clockLevel (s : State) : (fetchNext s).clockLevel = s.clockLevel := by simp [fetchNext]
@[simp] theorem fetchNext_dataLevel (s : State) : (fetchNext s).dataLevel = s.dataLevel := by simp [fetchNext]
@[simp] theorem fetchNext_lastDataLevel (s : State) : (fetchNext s).lastDataLevel = s.lastDataLevel :=
  by simp [fetchNext]
@[simp] theorem fetchNext_decoderState (s : State) : (fetchNext s).decoderState = s.decoderState :=
  by simp [fetchNext]
@[simp] theorem fetchNext_transferState (s : State) : (fetchNext s).transferState = s.transferState :=
  by simp [fetchNext]
@[simp] theorem fetchNext_currentAddress (s : State) : (fetchNext s).currentAddress = s.currentAddress :=
  by simp [fetchNext]
@[simp] theorem fetchNext_direction (s : State) : (fetchNext s).direction = s.direction := by simp [fetchNext]
@[simp] theorem fetchNext_driveRole (s : State) : (fetchNext s).driveRole = s.driveRole := by simp [fetchNext]
@[simp] theorem fetchNext_bitPosition (s : State) : (fetchNext s).bitPosition = 0 := rfl
@[simp] theorem fetchNext_registryRef (s : State) : (fetchNext s).registryRef = s.registryRef :=
  by simp [fetchNext]
@[simp] theorem fetchNext_busLabel (s : State) : (fetchNext s).busLabel = s.busLabel := by simp [fetchNext]
@[simp] theorem fetchNext_life (s : State) : (fetchNext s).life = s.life := by simp [fetchNext]
@[simp] theorem fetchNext_trace (s : State) : (fetchNext s).trace = s.trace := by simp [fetchNext]
@[simp] theorem fetchNext_pending (s : State) : (fetchNext s).pending = s.pending := by simp [fetchNext]
@[simp] theorem fetchNext_reply (s : State) : (fetchNext s).reply = s.reply := by simp [fetchNext]

@[simp] theorem handOver_clockLevel (s : State) : (handOver s).clockLevel = s.clockLevel := rfl
@[simp] theorem handOver_dataLevel (s : State) : (handOver s).dataLevel = s.dataLevel := rfl
@[simp] theorem handOver_lastDataLevel (s : State) : (handOver s).lastDataLevel = s.lastDataLevel := rfl
@[simp] theorem handOver_transferState (s : State) : (handOver s).transferState = s.transferState := rfl
@[simp] theorem handOver_currentAddress (s : State) : (handOver s).currentAddress = s.currentAddress := rfl
@[simp] theorem handOver_direction (s : State) : (handOver s).direction = s.direction := rfl
@[simp] theorem handOver_driveRole (s : State) : (handOver s).driveRole = s.driveRole := rfl
@[simp] theorem handOver_bitPosition (s : State) : (handOver s).bitPosition = 0 := rfl
@[simp] theorem handOver_shiftByte (s : State) : (handOver s).shiftByte = s.shiftByte := rfl
@[simp] theorem handOver_registryRef (s : State) : (handOver s).registryRef = s.registryRef := rfl
@[simp] theorem handOver_busLabel (s : State) : (handOver s).busLabel = s.busLabel := rfl
@[simp] theorem handOver_life (s : State) : (handOver s).life = s.life := rfl
@[simp] theorem handOver_registry (s : State) : (handOver s).registry = s.registry := rfl
@[simp] theorem handOver_history (s : State) : (handOver s).history = s.history := rfl
@[simp] theorem handOver_trace (s : State) : (handOver s).trace = s.trace := rfl
@[simp] theorem handOver_pending (s : State) : (handOver s).pending = s.pending := rfl
@[simp] theorem handOver_reply (s : State) : (handOver s).reply = s.reply := rfl

@[simp] theorem toAcknowledgeAtEight_clockLevel (s : State) : (toAcknowledgeAtEight s).clockLevel = s.clockLevel :=
  by unfold toAcknowledgeAtEight; split <;> rfl
@[simp] theorem toAcknowledgeAtEight_dataLevel (s : State) : (toAcknowledgeAtEight s).dataLevel = s.dataLevel :=
  by unfold toAcknowledgeAtEight; split <;> rfl
@[simp] theorem toAcknowledgeAtEight_lastDataLevel (s : State) : (toAcknowledgeAtEight s).lastDataLevel = s.lastDataLevel :=
  by unfold toAcknowledgeAtEight; split <;> rfl
@[simp] theorem toAcknowledgeAtEight_transferState (s : State) : (toAcknowledgeAtEight s).transferState = s.transferState :=
  by unfold toAcknowledgeAtEight; split <;> rfl
@[simp] theorem toAcknowledgeAtEight_currentAddress (s : State) : (toAcknowledgeAtEight s).currentAddress = s.currentAddress :=
  by unfold toAcknowledgeAtEight; split <;> rfl
@[simp] theorem toAcknowledgeAtEight_direction (s : State) : (toAcknowledgeAtEight s).direction = s.direction :=
  by unfold toAcknowledgeAtEight; split <;> rfl
@[simp] theorem toAcknowledgeAtEight_driveRole (s : State) : (toAcknowledgeAtEight s).driveRole = s.driveRole :=
  by unfold toAcknowledgeAtEight; split <;> rfl
@[simp] theorem toAcknowledgeAtEight_bitPosition (s : State) : (toAcknowledgeAtEight s).bitPosition = s.bitPosition :=
  by unfold toAcknowledgeAtEight; split <;> rfl
@[simp] theorem toAcknowledgeAtEight_shiftByte (s : State) : (toAcknowledgeAtEight s).shiftByte = s.shiftByte :=
  by unfold toAcknowledgeAtEight; split <;> rfl
@[simp] theorem toAcknowledgeAtEight_registryRef (s : State) : (toAcknowledgeAtEight s).registryRef = s.registryRef :=
  by unfold toAcknowledgeAtEight; split <;> rfl
@[simp] theorem toAcknowledgeAtEight_busLabel (s : State) : (toAcknowledgeAtEight s).busLabel = s.busLabel :=
  by unfold toAcknowledgeAtEight; split <;> rfl
@[simp] theorem toAcknowledgeAtEight_life (s : State) : (toAcknowledgeAtEight s).life = s.life :=
  by unfold toAcknowledgeAtEight; split <;> rfl
@[simp] theorem toAcknowledgeAtEight_registry (s : State) : (toAcknowledgeAtEight s).registry = s.registry :=
  by unfold toAcknowledgeAtEight; split <;> rfl
@[simp] theorem toAcknowledgeAtEight_history (s : State) : (toAcknowledgeAtEight s).history = s.history :=
  by unfold toAcknowledgeAtEight; split <;> rfl
@[simp] theorem toAcknowledgeAtEight_trace (s : State) : (toAcknowledgeAtEight s).trace = s.trace :=
  by unfold toAcknowledgeAtEight; split <;> rfl
@[simp] theorem toAcknowledgeAtEight_pending (s : State) : (toAcknowledgeAtEight s).pending = s.pending :=
  by unfold toAcknowledgeAtEight; split <;> rfl
@[simp] theorem toAcknowledgeAtEight_reply (s : State) : (toAcknowledgeAtEight s).reply = s.reply :=
  by unfold toAcknowledgeAtEight; split <;> rfl

@[simp] theorem byteBoundary_clockLevel (s : State) : (byteBoundary s).clockLevel = s.clockLevel :=
  by unfold byteBoundary; split <;> simp
@[simp] theorem byteBoundary_dataLevel (s : State) : (byteBoundary s).dataLevel = s.dataLevel :=
  by unfold byteBoundary; split <;> simp
@[simp] theorem byteBoundary_lastDataLevel (s : State) : (byteBoundary s).lastDataLevel = s.lastDataLevel :=
  by unfold byteBoundary; split <;> simp
@[simp] theorem byteBoundary_bitPosition (s : State) : (byteBoundary s).bitPosition = s.bitPosition :=
  by unfold byteBoundary; split <;> simp
@[simp] theorem byteBoundary_registryRef (s : State) : (byteBoundary s).registryRef = s.registryRef :=
  by unfold byteBoundary; split <;> simp
@[simp] theorem byteBoundary_busLabel (s : State) : (byteBoundary s).busLabel = s.busLabel :=
  by unfold byteBoundary; split <;> simp
@[simp] theorem byteBoundary_life (s : State) : (byteBoundary s).life = s.life :=
  by unfold byteBoundary; split <;> simp
@[simp] theorem byteBoundary_pending (s : State) : (byteBoundary s).pending = s.pending :=
  by unfold byteBoundary; split <;> simp
@[simp] theorem byteBoundary_reply (s : State) : (byteBoundary s).reply = s.reply :=
  by unfold byteBoundary; split <;> simp

end Sys2Proof.Machine
end

