-- ==== Sys2Proof/Laws/Ops.lean ====
section
/-! SUPPORT. What each shared operation can do, said once: when a meaning answers a next state, what a byte, a fetch
and the end of a transaction do to the history, and that a handler of `update` runs one cell. -/

namespace Sys2Proof.Machine

/-! ### When a meaning answers a next state -/

/-- `whenLive` goes on exactly on a live endpoint. -/
theorem whenLive_next_iff {s t : State} {k : Result} :
    whenLive s k = .next t ↔ s.life = .live ∧ k = .next t := by
  unfold whenLive
  cases s.life <;> simp

/-- A destroyed endpoint refuses. -/
theorem whenLive_destroyed {s : State} (h : s.life = .destroyed) (k : Result) :
    whenLive s k = .refused .endpointDestroyed := by
  simp [whenLive, h]

/-- A cell goes on exactly where the state selects it. -/
theorem atCell_next_iff {st : DecoderState} {pc pd : Level} {s t : State} {k : Result} :
    atCell st pc pd s k = .next t ↔ Safety.Selected st pc pd s ∧ k = .next t := by
  unfold atCell
  rw [whenLive_next_iff]
  split
  · rename_i h
    exact ⟨fun g => ⟨⟨g.1, h⟩, g.2⟩, fun g => ⟨g.1.1, g.2⟩⟩
  · rename_i h
    constructor
    · simp
    · exact fun g => absurd g.1.2 h

/-- A selected cell is what its action is. -/
theorem atCell_selected {st : DecoderState} {pc pd : Level} {s : State} (h : Safety.Selected st pc pd s)
    (k : Result) : atCell st pc pd s k = k := by
  obtain ⟨h1, h2, h3, h4⟩ := h
  simp [atCell, whenLive, h1, h2, h3, h4]

/-- A byte's case goes on exactly where the state selects it. -/
theorem atByte_next_iff {ts : TransferState} {b : Byte} {s t : State} {k : Result} :
    atByte ts b s k = .next t ↔ Safety.ByteSelected ts b s ∧ k = .next t := by
  unfold atByte
  rw [whenLive_next_iff]
  split
  · rename_i h
    exact ⟨fun g => ⟨⟨g.1, h⟩, g.2⟩, fun g => ⟨g.1.1, g.2⟩⟩
  · rename_i h
    constructor
    · simp
    · exact fun g => absurd g.1.2 h

/-- A selected byte's case is what its action is. -/
theorem atByte_selected {ts : TransferState} {b : Byte} {s : State} (h : Safety.ByteSelected ts b s) (k : Result) :
    atByte ts b s k = k := by
  obtain ⟨h1, h2, h3⟩ := h
  simp [atByte, whenLive, h1, h2, h3]

/-- A RISE that counts a bit goes on exactly below 8. -/
theorem belowEight_next_iff {s t : State} {k : Result} :
    belowEight s k = .next t ↔ s.bitPosition ≠ 8 ∧ k = .next t := by
  unfold belowEight
  split <;> simp_all

/-! ### What the Transfer Controller does to the endpoint and to the history -/

/-- The action of a stop, field by field (R83, R175). -/
theorem stopAction_eq_ended (s : State) : stopAction s = Safety.ended s := by
  unfold stopAction endTransaction endIfOpen Safety.ended
  cases s.currentAddress <;> simp [callEnd]

/-- The calls of the end of a transaction (R175). -/
theorem endTransaction_history (s : State) :
    (endTransaction s).history = s.history ++ Safety.endCalls s := by
  unfold endTransaction endIfOpen Safety.endCalls
  cases s.currentAddress <;> simp

/-- The calls of a fetch (R172). -/
theorem nextByte_history (s : State) : (nextByte s).history = s.history ++ Safety.readCalls s := by
  unfold nextByte Safety.readCalls
  cases s.currentAddress <;> simp

/-- The calls of an address byte (R163 to R165). -/
theorem consumeAddress_history (a : Addr) (readFlag : Bool) (s : State) :
    (consumeAddress a readFlag s).history = s.history ++ Safety.addressCalls a readFlag s := by
  unfold consumeAddress Safety.addressCalls openTransaction
  cases h : s.registry.has a <;> cases readFlag <;> cases hc : s.currentAddress <;> simp [h, hc]

/-- The calls of a data byte of a write (R166, R167). -/
theorem forwardByte_history (b : Byte) (s : State) :
    (forwardByte b s).history = s.history ++ Safety.writeCalls b s := by
  unfold forwardByte Safety.writeCalls
  cases s.currentAddress <;> simp

/-- The calls of a byte (R161). -/
theorem consumeByte_history (s : State) :
    (consumeByte s).history = s.history ++ Safety.byteCalls s.shiftByte s := by
  unfold consumeByte Safety.byteCalls
  cases s.transferState
  · exact consumeAddress_history _ _ _
  · exact forwardByte_history _ _
  · exact forwardByte_history _ _
  · simp
  · simp

/-- After a byte the sub-state is never IDLE (R176). -/
theorem consumeByte_transferState_ne_idle (s : State) : (consumeByte s).transferState ≠ .idle := by
  unfold consumeByte
  cases h : s.transferState
  · show (consumeAddress _ _ s).transferState ≠ .idle
    unfold consumeAddress
    (repeat' split) <;> simp
  · show (consumeFirstData _ s).transferState ≠ .idle
    unfold consumeFirstData
    cases s.direction <;> simp
  all_goals simp [h]

/-- An address byte records an anomaly exactly where it misses (R221). -/
theorem consumeAddress_trace (a : Addr) (readFlag : Bool) (s : State) :
    (consumeAddress a readFlag s).trace =
      if s.registry.has a then s.trace else s.trace ++ [.unaddressedDevice a] := by
  unfold consumeAddress openTransaction
  cases s.registry.has a <;> cases readFlag <;> cases hc : s.currentAddress <;> simp [hc]

/-! ### A handler of `update` runs the cell its event word selects (R66, R86) -/

theorem updateIdle_eq_cell (pc pd c d : Level) (s : State) :
    updateIdle pc pd c d s = exec (decodeUpd .idle pc pd c d) s := by
  cases pc <;> cases pd <;> cases c <;> cases d <;> rfl

theorem updateReceive_eq_cell (pc pd c d : Level) (s : State) :
    updateReceive pc pd c d s = exec (decodeUpd .receive pc pd c d) s := by
  cases pc <;> cases pd <;> cases c <;> cases d <;> rfl

theorem updateReceiveWait_eq_cell (pc pd c d : Level) (s : State) :
    updateReceiveWait pc pd c d s = exec (decodeUpd .receiveWait pc pd c d) s := by
  cases pc <;> cases pd <;> cases c <;> cases d <;> rfl

theorem updateAcknowledge_eq_cell (pc pd c d : Level) (s : State) :
    updateAcknowledge pc pd c d s = exec (decodeUpd .acknowledge pc pd c d) s := by
  cases pc <;> cases pd <;> cases c <;> cases d <;> rfl

theorem updateTransmitStart_eq_cell (pc pd c d : Level) (s : State) :
    updateTransmitStart pc pd c d s = exec (decodeUpd .transmitStart pc pd c d) s := by
  cases pc <;> cases pd <;> cases c <;> cases d <;> rfl

theorem updateTransmit_eq_cell (pc pd c d : Level) (s : State) :
    updateTransmit pc pd c d s = exec (decodeUpd .transmit pc pd c d) s := by
  cases pc <;> cases pd <;> cases c <;> cases d <;> rfl

theorem updateTransacknowledge_eq_cell (pc pd c d : Level) (s : State) :
    updateTransacknowledge pc pd c d s = exec (decodeUpd .transacknowledge pc pd c d) s := by
  cases pc <;> cases pd <;> cases c <;> cases d <;> rfl

theorem updateTransmitWait_eq_cell (pc pd c d : Level) (s : State) :
    updateTransmitWait pc pd c d s = exec (decodeUpd .transmitWait pc pd c d) s := by
  cases pc <;> cases pd <;> cases c <;> cases d <;> rfl

end Sys2Proof.Machine
end

