-- ==== Sys2Proof/Laws/PerInstr.lean ====
section
/-! SUPPORT. Per operation: the encoder writes a call the decoder can accept, with every operand at every value. -/

namespace Sys2Proof

/-- The encoding of an operation is a well-formed call. -/
def Laws.EncodeWellFormed.Statement (i : Instr) : Prop := (encode i).wellFormed = true

theorem Laws.EncodeWellFormed.idleStart : Statement .idleStart := by
  rfl

theorem Laws.EncodeWellFormed.idleLstart : Statement .idleLstart := by
  rfl

theorem Laws.EncodeWellFormed.idleRise0 : Statement .idleRise0 := by
  rfl

theorem Laws.EncodeWellFormed.idleRise1 (pd : Level) : Statement (.idleRise1 pd) := by
  cases pd <;> rfl

theorem Laws.EncodeWellFormed.idleStop : Statement .idleStop := by
  rfl

theorem Laws.EncodeWellFormed.idleFall (pd d : Level) : Statement (.idleFall pd d) := by
  cases pd <;> cases d <;> rfl

theorem Laws.EncodeWellFormed.idleLow (pd d : Level) : Statement (.idleLow pd d) := by
  cases pd <;> cases d <;> rfl

theorem Laws.EncodeWellFormed.idleHold0 : Statement .idleHold0 := by
  rfl

theorem Laws.EncodeWellFormed.idleHold1 : Statement .idleHold1 := by
  rfl

theorem Laws.EncodeWellFormed.receiveRise (pd d : Level) : Statement (.receiveRise pd d) := by
  cases pd <;> cases d <;> rfl

theorem Laws.EncodeWellFormed.receiveStop : Statement .receiveStop := by
  rfl

theorem Laws.EncodeWellFormed.receiveStart : Statement .receiveStart := by
  rfl

theorem Laws.EncodeWellFormed.receiveFall (pd d : Level) : Statement (.receiveFall pd d) := by
  cases pd <;> cases d <;> rfl

theorem Laws.EncodeWellFormed.receiveLow (pd d : Level) : Statement (.receiveLow pd d) := by
  cases pd <;> cases d <;> rfl

theorem Laws.EncodeWellFormed.receiveHold0 : Statement .receiveHold0 := by
  rfl

theorem Laws.EncodeWellFormed.receiveHold1 : Statement .receiveHold1 := by
  rfl

theorem Laws.EncodeWellFormed.receiveWaitRise (pd d : Level) : Statement (.receiveWaitRise pd d) := by
  cases pd <;> cases d <;> rfl

theorem Laws.EncodeWellFormed.receiveWaitStop : Statement .receiveWaitStop := by
  rfl

theorem Laws.EncodeWellFormed.receiveWaitStart : Statement .receiveWaitStart := by
  rfl

theorem Laws.EncodeWellFormed.receiveWaitFall (pd d : Level) : Statement (.receiveWaitFall pd d) := by
  cases pd <;> cases d <;> rfl

theorem Laws.EncodeWellFormed.receiveWaitLow (pd d : Level) : Statement (.receiveWaitLow pd d) := by
  cases pd <;> cases d <;> rfl

theorem Laws.EncodeWellFormed.receiveWaitHold0 : Statement .receiveWaitHold0 := by
  rfl

theorem Laws.EncodeWellFormed.receiveWaitHold1 : Statement .receiveWaitHold1 := by
  rfl

theorem Laws.EncodeWellFormed.acknowledgeRise (pd d : Level) : Statement (.acknowledgeRise pd d) := by
  cases pd <;> cases d <;> rfl

theorem Laws.EncodeWellFormed.acknowledgeStop : Statement .acknowledgeStop := by
  rfl

theorem Laws.EncodeWellFormed.acknowledgeStart : Statement .acknowledgeStart := by
  rfl

theorem Laws.EncodeWellFormed.acknowledgeFall (pd d : Level) : Statement (.acknowledgeFall pd d) := by
  cases pd <;> cases d <;> rfl

theorem Laws.EncodeWellFormed.acknowledgeLow (pd d : Level) : Statement (.acknowledgeLow pd d) := by
  cases pd <;> cases d <;> rfl

theorem Laws.EncodeWellFormed.acknowledgeHold0 : Statement .acknowledgeHold0 := by
  rfl

theorem Laws.EncodeWellFormed.acknowledgeHold1 : Statement .acknowledgeHold1 := by
  rfl

theorem Laws.EncodeWellFormed.transmitStartRise (pd d : Level) : Statement (.transmitStartRise pd d) := by
  cases pd <;> cases d <;> rfl

theorem Laws.EncodeWellFormed.transmitStartStop : Statement .transmitStartStop := by
  rfl

theorem Laws.EncodeWellFormed.transmitStartStart : Statement .transmitStartStart := by
  rfl

theorem Laws.EncodeWellFormed.transmitStartFall (pd d : Level) : Statement (.transmitStartFall pd d) := by
  cases pd <;> cases d <;> rfl

theorem Laws.EncodeWellFormed.transmitStartLow (pd d : Level) : Statement (.transmitStartLow pd d) := by
  cases pd <;> cases d <;> rfl

theorem Laws.EncodeWellFormed.transmitStartHold0 : Statement .transmitStartHold0 := by
  rfl

theorem Laws.EncodeWellFormed.transmitStartHold1 : Statement .transmitStartHold1 := by
  rfl

theorem Laws.EncodeWellFormed.transmitRise (pd d : Level) : Statement (.transmitRise pd d) := by
  cases pd <;> cases d <;> rfl

theorem Laws.EncodeWellFormed.transmitFall (pd d : Level) : Statement (.transmitFall pd d) := by
  cases pd <;> cases d <;> rfl

theorem Laws.EncodeWellFormed.transmitStop : Statement .transmitStop := by
  rfl

theorem Laws.EncodeWellFormed.transmitStart : Statement .transmitStart := by
  rfl

theorem Laws.EncodeWellFormed.transmitLow (pd d : Level) : Statement (.transmitLow pd d) := by
  cases pd <;> cases d <;> rfl

theorem Laws.EncodeWellFormed.transmitHold0 : Statement .transmitHold0 := by
  rfl

theorem Laws.EncodeWellFormed.transmitHold1 : Statement .transmitHold1 := by
  rfl

theorem Laws.EncodeWellFormed.transacknowledgeRise1 (pd : Level) : Statement (.transacknowledgeRise1 pd) := by
  cases pd <;> rfl

theorem Laws.EncodeWellFormed.transacknowledgeRise0 (pd : Level) : Statement (.transacknowledgeRise0 pd) := by
  cases pd <;> rfl

theorem Laws.EncodeWellFormed.transacknowledgeStop : Statement .transacknowledgeStop := by
  rfl

theorem Laws.EncodeWellFormed.transacknowledgeStart : Statement .transacknowledgeStart := by
  rfl

theorem Laws.EncodeWellFormed.transacknowledgeFall (pd d : Level) : Statement (.transacknowledgeFall pd d) := by
  cases pd <;> cases d <;> rfl

theorem Laws.EncodeWellFormed.transacknowledgeLow (pd d : Level) : Statement (.transacknowledgeLow pd d) := by
  cases pd <;> cases d <;> rfl

theorem Laws.EncodeWellFormed.transacknowledgeHold0 : Statement .transacknowledgeHold0 := by
  rfl

theorem Laws.EncodeWellFormed.transacknowledgeHold1 : Statement .transacknowledgeHold1 := by
  rfl

theorem Laws.EncodeWellFormed.transmitWaitStart : Statement .transmitWaitStart := by
  rfl

theorem Laws.EncodeWellFormed.transmitWaitStop : Statement .transmitWaitStop := by
  rfl

theorem Laws.EncodeWellFormed.transmitWaitRise (pd d : Level) : Statement (.transmitWaitRise pd d) := by
  cases pd <;> cases d <;> rfl

theorem Laws.EncodeWellFormed.transmitWaitFall (pd d : Level) : Statement (.transmitWaitFall pd d) := by
  cases pd <;> cases d <;> rfl

theorem Laws.EncodeWellFormed.transmitWaitLow (pd d : Level) : Statement (.transmitWaitLow pd d) := by
  cases pd <;> cases d <;> rfl

theorem Laws.EncodeWellFormed.transmitWaitHold0 : Statement .transmitWaitHold0 := by
  rfl

theorem Laws.EncodeWellFormed.transmitWaitHold1 : Statement .transmitWaitHold1 := by
  rfl

theorem Laws.EncodeWellFormed.create (ref : Handle) (label : Label) : Statement (.create ref label) := by
  rfl

theorem Laws.EncodeWellFormed.destroy : Statement .destroy := by
  rfl

theorem Laws.EncodeWellFormed.update (c d : Level) : Statement (.update c d) := by
  cases c <;> cases d <;> rfl

theorem Laws.EncodeWellFormed.getClockLevel : Statement .getClockLevel := by
  rfl

theorem Laws.EncodeWellFormed.getDataLevel : Statement .getDataLevel := by
  rfl

theorem Laws.EncodeWellFormed.getRegistryHandle : Statement .getRegistryHandle := by
  rfl

theorem Laws.EncodeWellFormed.consumeByte : Statement .consumeByte := by
  rfl

theorem Laws.EncodeWellFormed.nextByte : Statement .nextByte := by
  rfl

theorem Laws.EncodeWellFormed.endTransaction : Statement .endTransaction := by
  rfl

theorem Laws.EncodeWellFormed.consumeIdleWr (a : Addr) : Statement (.consumeIdleWr a) := by
  revert a; unfold Statement; decide

theorem Laws.EncodeWellFormed.consumeIdleRd (a : Addr) : Statement (.consumeIdleRd a) := by
  revert a; unfold Statement; decide

theorem Laws.EncodeWellFormed.consumeReceiveAddress (b : Byte) : Statement (.consumeReceiveAddress b) := by
  revert b; unfold Statement; decide

theorem Laws.EncodeWellFormed.consumeReceiveData (b : Byte) : Statement (.consumeReceiveData b) := by
  revert b; unfold Statement; decide

theorem Laws.EncodeWellFormed.consumeSendData (b : Byte) : Statement (.consumeSendData b) := by
  revert b; unfold Statement; decide

theorem Laws.EncodeWellFormed.consumeInvalid (b : Byte) : Statement (.consumeInvalid b) := by
  revert b; unfold Statement; decide

theorem Laws.EncodeWellFormed.hasDevice (a : Addr) : Statement (.hasDevice a) := by
  rfl

theorem Laws.EncodeWellFormed.transactionStart (a : Addr) : Statement (.transactionStart a) := by
  rfl

theorem Laws.EncodeWellFormed.transactionEnd (a : Addr) : Statement (.transactionEnd a) := by
  rfl

theorem Laws.EncodeWellFormed.readByte (a : Addr) : Statement (.readByte a) := by
  rfl

theorem Laws.EncodeWellFormed.writeByte (a : Addr) (b : Byte) : Statement (.writeByte a b) := by
  rfl

theorem Laws.EncodeWellFormed.addrWrite (a : Addr) : Statement (.addrWrite a) := by
  revert a; unfold Statement; decide

theorem Laws.EncodeWellFormed.addrRead (a : Addr) : Statement (.addrRead a) := by
  revert a; unfold Statement; decide

end Sys2Proof
end

