-- ==== Sys2Proof/Laws/Registry.lean ====
section
/-! SUPPORT. Every registry operation keeps the canonical form of a declared registry (log 17), and what a read does to
the declared devices. -/

namespace Sys2Proof.Machine

/-- Changing the devices but not their addresses keeps the addresses' order. -/
theorem risingAddresses_map (f : Device → Device) (hf : ∀ v, (f v).addr = v.addr) (ds : List Device) :
    risingAddresses (ds.map f) = risingAddresses ds := by
  induction ds with
  | nil => rfl
  | cons v rest ih =>
    cases rest with
    | nil => rfl
    | cons w rest => simp only [List.map, risingAddresses, hf] at ih ⊢; rw [ih]

theorem afterDeviceRead_rising (ds : List Device) (a : Addr) :
    risingAddresses (afterDeviceRead ds a) = risingAddresses ds := by
  refine risingAddresses_map _ (fun v => ?_) ds
  split <;> rfl

theorem Registry.afterRead_wf (r : Registry) (a : Addr) : (r.afterRead a).wf = r.wf := by
  rcases r with ⟨devices, world⟩
  cases devices with
  | opened => rfl
  | declared ds => exact afterDeviceRead_rising ds a

theorem Registry.afterStart_wf (r : Registry) (a : Addr) : (r.afterStart a).wf = r.wf := rfl

theorem Registry.afterEnd_wf (r : Registry) (a : Addr) : (r.afterEnd a).wf = r.wf := rfl

theorem Registry.afterWrite_wf (r : Registry) (a : Addr) (b : Byte) : (r.afterWrite a b).wf = r.wf := rfl

theorem forwardByte_wf (b : Byte) (s : State) : (forwardByte b s).registry.wf = s.registry.wf := by
  unfold forwardByte
  cases s.currentAddress <;> simp [Registry.afterWrite_wf]

theorem consumeAddress_wf (a : Addr) (readFlag : Bool) (s : State) :
    (consumeAddress a readFlag s).registry.wf = s.registry.wf := by
  unfold consumeAddress openTransaction
  (repeat' split) <;> simp [Registry.afterRead_wf, Registry.afterStart_wf]

theorem consumeByte_wf (s : State) : (consumeByte s).registry.wf = s.registry.wf := by
  unfold consumeByte
  cases s.transferState
  · exact consumeAddress_wf _ _ _
  · exact forwardByte_wf _ _
  · exact forwardByte_wf _ _
  · rfl
  · rfl

theorem nextByte_wf (s : State) : (nextByte s).registry.wf = s.registry.wf := by
  unfold nextByte
  cases s.currentAddress <;> simp [Registry.afterRead_wf]

theorem endTransaction_wf (s : State) : (endTransaction s).registry.wf = s.registry.wf := by
  unfold endTransaction endIfOpen
  cases s.currentAddress <;> simp [Registry.afterEnd_wf]

/-- What a read leaves at an address: one byte fewer at the address read, and every other device as it was. -/
theorem findDevice_afterDeviceRead (ds : List Device) (a b : Addr) :
    findDevice (afterDeviceRead ds a) b =
      (findDevice ds b).map fun v => if b = a then { v with bytes := v.bytes.tail } else v := by
  induction ds with
  | nil => rfl
  | cons v rest ih =>
    simp only [findDevice, afterDeviceRead, List.map_cons, List.find?_cons] at ih ⊢
    by_cases hb : v.addr = b
    · subst hb
      by_cases ha : v.addr = a <;> simp [ha]
    · have hv : (if v.addr = a then { v with bytes := v.bytes.tail } else v).addr = v.addr := by split <;> rfl
      simp only [hv, beq_eq_false_iff_ne.mpr hb]
      exact ih

/-- The head's address lies below every other one. -/
theorem risingAddresses_head_lt {v : Device} {ds : List Device} (h : risingAddresses (v :: ds) = true) :
    ∀ w ∈ ds, v.addr.toNat < w.addr.toNat := by
  induction ds generalizing v with
  | nil => simp
  | cons u rest ih =>
    simp only [risingAddresses, Bool.and_eq_true, decide_eq_true_eq] at h
    intro w hw
    rcases List.mem_cons.mp hw with rfl | hw
    · exact h.1
    · exact lt_trans h.1 (ih h.2 w hw)

/-- In the canonical form an address names one device. -/
theorem findDevice_of_mem {ds : List Device} (h : risingAddresses ds = true) {v : Device} (hv : v ∈ ds) :
    findDevice ds v.addr = some v := by
  induction ds with
  | nil => simp at hv
  | cons u rest ih =>
    rcases List.mem_cons.mp hv with rfl | hv
    · simp [findDevice]
    · have hne : u.addr ≠ v.addr := fun e => by
        have := risingAddresses_head_lt h v hv
        rw [e] at this
        exact lt_irrefl _ this
      have hr : risingAddresses rest = true := by
        cases rest with
        | nil => rfl
        | cons w rest => simp only [risingAddresses, Bool.and_eq_true] at h; exact h.2
      simpa [findDevice, hne] using ih hr hv

end Sys2Proof.Machine
end

