-- ==== Sys2Proof/Tests/Slice0.lean ====
section
/-! SUPPORT. Tests of the model: ill-formed calls, words written out from the encodings of the spec, the vectors of
95_test_vectors.md (each named by its id), and, for every statement that has hypotheses, states and operands that meet
them. -/

namespace Sys2Proof.Tests

open Sys2Proof.Machine Sys2Proof.Safety

/-! ### WellFormed smoke: one ill-formed call for each check, refused by the check and by the decoder -/

theorem test_wellFormed_fitsWidth :
    Call.fitsWidth { fmt := .upd, word := 0x80#16, beside := .none } = false ∧
    decode { fmt := .upd, word := 0x80#16, beside := .none } = .error .wordTooWide := by decide

theorem test_wellFormed_codeAssigned :
    Call.codeAssigned { fmt := .ctl, word := 3#16, beside := .none } = false ∧
    decode { fmt := .ctl, word := 3#16, beside := .none } = .error .reservedCtlCommand := by decide

theorem test_wellFormed_codeAssigned_reserved :
    Call.codeAssigned { fmt := .cbyte, word := 0x500#16, beside := .none } = false ∧
    Call.codeAssigned { fmt := .cbyte, word := 0x4FF#16, beside := .none } = true ∧
    Call.codeAssigned { fmt := .reg, word := 5#16, beside := .address 0 } = false ∧
    Call.codeAssigned { fmt := .host, word := 6#16, beside := .none } = false ∧
    Call.codeAssigned { fmt := .host, word := 12#16, beside := .none } = false ∧
    decode { fmt := .host, word := 12#16, beside := .none } = .error .malformedHostWord := by decide

theorem test_wellFormed_besideFits :
    Call.besideFits { fmt := .reg, word := 4#16, beside := .address 0x50#7 } = false ∧
    decode { fmt := .reg, word := 4#16, beside := .address 0x50#7 } = .error .operandsMismatch ∧
    Call.besideFits { fmt := .host, word := 0#16, beside := .none } = false ∧
    decode { fmt := .host, word := 0#16, beside := .none } = .error .operandsMismatch := by decide

theorem test_wellFormed_accepts :
    Call.wellFormed { fmt := .reg, word := 4#16, beside := .addressByte 0x50#7 0xA5#8 } = true := by decide

/-! ### Decoding: the words of the table, the letters of a row all 0 and all 1 -/

theorem test_words_upd_idle :
    decode { fmt := .upd, word := 0b0001110#16, beside := .none } = .ok .idleStart ∧
    decode { fmt := .upd, word := 0b0000110#16, beside := .none } = .ok .idleLstart ∧
    decode { fmt := .upd, word := 0b0000010#16, beside := .none } = .ok .idleRise0 ∧
    decode { fmt := .upd, word := 0b0000011#16, beside := .none } = .ok (.idleRise1 false) ∧
    decode { fmt := .upd, word := 0b0000111#16, beside := .none } = .ok (.idleRise1 true) ∧
    decode { fmt := .upd, word := 0b0001011#16, beside := .none } = .ok .idleStop ∧
    decode { fmt := .upd, word := 0b0001000#16, beside := .none } = .ok (.idleFall false false) ∧
    decode { fmt := .upd, word := 0b0001101#16, beside := .none } = .ok (.idleFall true true) ∧
    decode { fmt := .upd, word := 0b0000000#16, beside := .none } = .ok (.idleLow false false) ∧
    decode { fmt := .upd, word := 0b0000101#16, beside := .none } = .ok (.idleLow true true) ∧
    decode { fmt := .upd, word := 0b0001010#16, beside := .none } = .ok .idleHold0 ∧
    decode { fmt := .upd, word := 0b0001111#16, beside := .none } = .ok .idleHold1 := by decide

theorem test_words_upd_receive :
    decode { fmt := .upd, word := 0b0010010#16, beside := .none } = .ok (.receiveRise false false) ∧
    decode { fmt := .upd, word := 0b0010111#16, beside := .none } = .ok (.receiveRise true true) ∧
    decode { fmt := .upd, word := 0b0011011#16, beside := .none } = .ok .receiveStop ∧
    decode { fmt := .upd, word := 0b0011110#16, beside := .none } = .ok .receiveStart ∧
    decode { fmt := .upd, word := 0b0011000#16, beside := .none } = .ok (.receiveFall false false) ∧
    decode { fmt := .upd, word := 0b0011101#16, beside := .none } = .ok (.receiveFall true true) ∧
    decode { fmt := .upd, word := 0b0010000#16, beside := .none } = .ok (.receiveLow false false) ∧
    decode { fmt := .upd, word := 0b0010101#16, beside := .none } = .ok (.receiveLow true true) ∧
    decode { fmt := .upd, word := 0b0011010#16, beside := .none } = .ok .receiveHold0 ∧
    decode { fmt := .upd, word := 0b0011111#16, beside := .none } = .ok .receiveHold1 := by decide

theorem test_words_upd_receive_wait :
    decode { fmt := .upd, word := 0b0100010#16, beside := .none } = .ok (.receiveWaitRise false false) ∧
    decode { fmt := .upd, word := 0b0100111#16, beside := .none } = .ok (.receiveWaitRise true true) ∧
    decode { fmt := .upd, word := 0b0101011#16, beside := .none } = .ok .receiveWaitStop ∧
    decode { fmt := .upd, word := 0b0101110#16, beside := .none } = .ok .receiveWaitStart ∧
    decode { fmt := .upd, word := 0b0101000#16, beside := .none } = .ok (.receiveWaitFall false false) ∧
    decode { fmt := .upd, word := 0b0101101#16, beside := .none } = .ok (.receiveWaitFall true true) ∧
    decode { fmt := .upd, word := 0b0100000#16, beside := .none } = .ok (.receiveWaitLow false false) ∧
    decode { fmt := .upd, word := 0b0100101#16, beside := .none } = .ok (.receiveWaitLow true true) ∧
    decode { fmt := .upd, word := 0b0101010#16, beside := .none } = .ok .receiveWaitHold0 ∧
    decode { fmt := .upd, word := 0b0101111#16, beside := .none } = .ok .receiveWaitHold1 := by decide

theorem test_words_upd_acknowledge :
    decode { fmt := .upd, word := 0b0110010#16, beside := .none } = .ok (.acknowledgeRise false false) ∧
    decode { fmt := .upd, word := 0b0110111#16, beside := .none } = .ok (.acknowledgeRise true true) ∧
    decode { fmt := .upd, word := 0b0111011#16, beside := .none } = .ok .acknowledgeStop ∧
    decode { fmt := .upd, word := 0b0111110#16, beside := .none } = .ok .acknowledgeStart ∧
    decode { fmt := .upd, word := 0b0111000#16, beside := .none } = .ok (.acknowledgeFall false false) ∧
    decode { fmt := .upd, word := 0b0111101#16, beside := .none } = .ok (.acknowledgeFall true true) ∧
    decode { fmt := .upd, word := 0b0110000#16, beside := .none } = .ok (.acknowledgeLow false false) ∧
    decode { fmt := .upd, word := 0b0110101#16, beside := .none } = .ok (.acknowledgeLow true true) ∧
    decode { fmt := .upd, word := 0b0111010#16, beside := .none } = .ok .acknowledgeHold0 ∧
    decode { fmt := .upd, word := 0b0111111#16, beside := .none } = .ok .acknowledgeHold1 := by decide

theorem test_words_upd_transmit_start :
    decode { fmt := .upd, word := 0b1000010#16, beside := .none } = .ok (.transmitStartRise false false) ∧
    decode { fmt := .upd, word := 0b1000111#16, beside := .none } = .ok (.transmitStartRise true true) ∧
    decode { fmt := .upd, word := 0b1001011#16, beside := .none } = .ok .transmitStartStop ∧
    decode { fmt := .upd, word := 0b1001110#16, beside := .none } = .ok .transmitStartStart ∧
    decode { fmt := .upd, word := 0b1001000#16, beside := .none } = .ok (.transmitStartFall false false) ∧
    decode { fmt := .upd, word := 0b1001101#16, beside := .none } = .ok (.transmitStartFall true true) ∧
    decode { fmt := .upd, word := 0b1000000#16, beside := .none } = .ok (.transmitStartLow false false) ∧
    decode { fmt := .upd, word := 0b1000101#16, beside := .none } = .ok (.transmitStartLow true true) ∧
    decode { fmt := .upd, word := 0b1001010#16, beside := .none } = .ok .transmitStartHold0 ∧
    decode { fmt := .upd, word := 0b1001111#16, beside := .none } = .ok .transmitStartHold1 := by decide

theorem test_words_upd_transmit :
    decode { fmt := .upd, word := 0b1010010#16, beside := .none } = .ok (.transmitRise false false) ∧
    decode { fmt := .upd, word := 0b1010111#16, beside := .none } = .ok (.transmitRise true true) ∧
    decode { fmt := .upd, word := 0b1011000#16, beside := .none } = .ok (.transmitFall false false) ∧
    decode { fmt := .upd, word := 0b1011101#16, beside := .none } = .ok (.transmitFall true true) ∧
    decode { fmt := .upd, word := 0b1011011#16, beside := .none } = .ok .transmitStop ∧
    decode { fmt := .upd, word := 0b1011110#16, beside := .none } = .ok .transmitStart ∧
    decode { fmt := .upd, word := 0b1010000#16, beside := .none } = .ok (.transmitLow false false) ∧
    decode { fmt := .upd, word := 0b1010101#16, beside := .none } = .ok (.transmitLow true true) ∧
    decode { fmt := .upd, word := 0b1011010#16, beside := .none } = .ok .transmitHold0 ∧
    decode { fmt := .upd, word := 0b1011111#16, beside := .none } = .ok .transmitHold1 := by decide

theorem test_words_upd_transacknowledge :
    decode { fmt := .upd, word := 0b1100011#16, beside := .none } = .ok (.transacknowledgeRise1 false) ∧
    decode { fmt := .upd, word := 0b1100111#16, beside := .none } = .ok (.transacknowledgeRise1 true) ∧
    decode { fmt := .upd, word := 0b1100010#16, beside := .none } = .ok (.transacknowledgeRise0 false) ∧
    decode { fmt := .upd, word := 0b1100110#16, beside := .none } = .ok (.transacknowledgeRise0 true) ∧
    decode { fmt := .upd, word := 0b1101011#16, beside := .none } = .ok .transacknowledgeStop ∧
    decode { fmt := .upd, word := 0b1101110#16, beside := .none } = .ok .transacknowledgeStart ∧
    decode { fmt := .upd, word := 0b1101000#16, beside := .none } = .ok (.transacknowledgeFall false false) ∧
    decode { fmt := .upd, word := 0b1101101#16, beside := .none } = .ok (.transacknowledgeFall true true) ∧
    decode { fmt := .upd, word := 0b1100000#16, beside := .none } = .ok (.transacknowledgeLow false false) ∧
    decode { fmt := .upd, word := 0b1100101#16, beside := .none } = .ok (.transacknowledgeLow true true) ∧
    decode { fmt := .upd, word := 0b1101010#16, beside := .none } = .ok .transacknowledgeHold0 ∧
    decode { fmt := .upd, word := 0b1101111#16, beside := .none } = .ok .transacknowledgeHold1 := by decide

theorem test_words_upd_transmit_wait :
    decode { fmt := .upd, word := 0b1111110#16, beside := .none } = .ok .transmitWaitStart ∧
    decode { fmt := .upd, word := 0b1111011#16, beside := .none } = .ok .transmitWaitStop ∧
    decode { fmt := .upd, word := 0b1110010#16, beside := .none } = .ok (.transmitWaitRise false false) ∧
    decode { fmt := .upd, word := 0b1110111#16, beside := .none } = .ok (.transmitWaitRise true true) ∧
    decode { fmt := .upd, word := 0b1111000#16, beside := .none } = .ok (.transmitWaitFall false false) ∧
    decode { fmt := .upd, word := 0b1111101#16, beside := .none } = .ok (.transmitWaitFall true true) ∧
    decode { fmt := .upd, word := 0b1110000#16, beside := .none } = .ok (.transmitWaitLow false false) ∧
    decode { fmt := .upd, word := 0b1110101#16, beside := .none } = .ok (.transmitWaitLow true true) ∧
    decode { fmt := .upd, word := 0b1111010#16, beside := .none } = .ok .transmitWaitHold0 ∧
    decode { fmt := .upd, word := 0b1111111#16, beside := .none } = .ok .transmitWaitHold1 := by decide

theorem test_words_host :
    decode { fmt := .host, word := 0b000#16, beside := .attach 7 9 } = .ok (.create 7 9) ∧
    decode { fmt := .host, word := 0b001#16, beside := .none } = .ok .destroy ∧
    decode { fmt := .host, word := 0b01000#16, beside := .none } = .ok (.update false false) ∧
    decode { fmt := .host, word := 0b01011#16, beside := .none } = .ok (.update true true) ∧
    decode { fmt := .host, word := 0b011#16, beside := .none } = .ok .getClockLevel ∧
    decode { fmt := .host, word := 0b100#16, beside := .none } = .ok .getDataLevel ∧
    decode { fmt := .host, word := 0b101#16, beside := .none } = .ok .getRegistryHandle := by decide

theorem test_words_ctl :
    decode { fmt := .ctl, word := 0b00#16, beside := .none } = .ok .consumeByte ∧
    decode { fmt := .ctl, word := 0b01#16, beside := .none } = .ok .nextByte ∧
    decode { fmt := .ctl, word := 0b10#16, beside := .none } = .ok .endTransaction := by decide

theorem test_words_cbyte :
    decode { fmt := .cbyte, word := 0b00000000000#16, beside := .none } = .ok (.consumeIdleWr 0x00#7) ∧
    decode { fmt := .cbyte, word := 0b00011111110#16, beside := .none } = .ok (.consumeIdleWr 0x7F#7) ∧
    decode { fmt := .cbyte, word := 0b00000000001#16, beside := .none } = .ok (.consumeIdleRd 0x00#7) ∧
    decode { fmt := .cbyte, word := 0b00011111111#16, beside := .none } = .ok (.consumeIdleRd 0x7F#7) ∧
    decode { fmt := .cbyte, word := 0b00100000000#16, beside := .none } = .ok (.consumeReceiveAddress 0x00#8) ∧
    decode { fmt := .cbyte, word := 0b00111111111#16, beside := .none } = .ok (.consumeReceiveAddress 0xFF#8) ∧
    decode { fmt := .cbyte, word := 0b01000000000#16, beside := .none } = .ok (.consumeReceiveData 0x00#8) ∧
    decode { fmt := .cbyte, word := 0b01011111111#16, beside := .none } = .ok (.consumeReceiveData 0xFF#8) ∧
    decode { fmt := .cbyte, word := 0b01100000000#16, beside := .none } = .ok (.consumeSendData 0x00#8) ∧
    decode { fmt := .cbyte, word := 0b01111111111#16, beside := .none } = .ok (.consumeSendData 0xFF#8) ∧
    decode { fmt := .cbyte, word := 0b10000000000#16, beside := .none } = .ok (.consumeInvalid 0x00#8) ∧
    decode { fmt := .cbyte, word := 0b10011111111#16, beside := .none } = .ok (.consumeInvalid 0xFF#8) := by decide

theorem test_words_reg :
    decode { fmt := .reg, word := 0b000#16, beside := .address 0x00#7 } = .ok (.hasDevice 0x00#7) ∧
    decode { fmt := .reg, word := 0b000#16, beside := .address 0x7F#7 } = .ok (.hasDevice 0x7F#7) ∧
    decode { fmt := .reg, word := 0b001#16, beside := .address 0x00#7 } = .ok (.transactionStart 0x00#7) ∧
    decode { fmt := .reg, word := 0b001#16, beside := .address 0x7F#7 } = .ok (.transactionStart 0x7F#7) ∧
    decode { fmt := .reg, word := 0b010#16, beside := .address 0x00#7 } = .ok (.transactionEnd 0x00#7) ∧
    decode { fmt := .reg, word := 0b010#16, beside := .address 0x7F#7 } = .ok (.transactionEnd 0x7F#7) ∧
    decode { fmt := .reg, word := 0b011#16, beside := .address 0x00#7 } = .ok (.readByte 0x00#7) ∧
    decode { fmt := .reg, word := 0b011#16, beside := .address 0x7F#7 } = .ok (.readByte 0x7F#7) ∧
    decode { fmt := .reg, word := 0b100#16, beside := .addressByte 0x00#7 0x00#8 } = .ok (.writeByte 0x00#7 0x00#8) ∧
    decode { fmt := .reg, word := 0b100#16, beside := .addressByte 0x7F#7 0xFF#8 } = .ok (.writeByte 0x7F#7 0xFF#8) := by
  decide

theorem test_words_addr :
    decode { fmt := .addr, word := 0b00000000#16, beside := .none } = .ok (.addrWrite 0x00#7) ∧
    decode { fmt := .addr, word := 0b11111110#16, beside := .none } = .ok (.addrWrite 0x7F#7) ∧
    decode { fmt := .addr, word := 0b00000001#16, beside := .none } = .ok (.addrRead 0x00#7) ∧
    decode { fmt := .addr, word := 0b11111111#16, beside := .none } = .ok (.addrRead 0x7F#7) := by decide

theorem test_tableWord :
    decodeTableWord 7 0b0001110 = some .idleStart ∧ decodeTableWord 8 0b1011001 = some (.transmitFall false true) ∧
    decodeTableWord 16 0b01010100101 = some (.consumeReceiveData 0xA5#8) ∧ decodeTableWord 2 0b01 = some .nextByte ∧
    decodeTableWord 5 0b01011 = some (.update true true) ∧ decodeTableWord 8 0xA5 = some (.addrRead 0x52#7) ∧
    decodeTableWord 16 0x500 = none := by decide

/-- The very next step runs the table word. -/
theorem test_withFetchWord_runs :
    step (State.reset.withFetchWord 8 0b1010111) =
      exec (.transmitRise true true) { State.reset with decoderState := .transmit, clockLevel := false } := rfl

theorem test_withFetchWord_byte :
    step (State.reset.withFetchWord 16 0x2A5) =
      exec (.consumeReceiveData 0xA5#8) { State.reset with transferState := .receiveData, shiftByte := 0xA5#8 } := rfl

/-! ### The vectors of the spec -/

/-- The test registry of 95_test_vectors.md: `DEV 0x50 : 0x3C 0x81` and `DEV 0x51 : 0x7E`. -/
def registry : Registry :=
  { devices := .declared [{ addr := 0x50#7, bytes := [0x3C#8, 0x81#8] }, { addr := 0x51#7, bytes := [0x7E#8] }]
    world := 0 }

/-- A state in the notation of 95_test_vectors.md: a write or no transaction (`WR M`). -/
def master (st : DecoderState) (ts : TransferState) (a : Option Addr) (pos : BitCount) (sb : Byte) (cl dl ld : Level) :
    State :=
  { State.reset with
    decoderState := st, transferState := ts, currentAddress := a, bitPosition := pos, shiftByte := sb
    clockLevel := cl, dataLevel := dl, lastDataLevel := ld, registry := registry }

/-- A read of device 0x50 (`SEND_DATA 0x50 RD S`). -/
def slave (st : DecoderState) (pos : BitCount) (sb : Byte) (cl dl ld : Level) : State :=
  { master st .sendData (some 0x50#7) pos sb cl dl ld with direction := .read, driveRole := .txSlave }

/-- A state as the vectors write it, with the registry calls made. -/
structure Shown where
  st : DecoderState
  ts : TransferState
  addr : Option Addr
  dir : Direction
  role : DriveRole
  pos : BitCount
  sb : Byte
  cl : Level
  dl : Level
  ld : Level
  calls : List RegistryCall
  deriving DecidableEq, Repr

def shownState (s : State) : Shown :=
  { st := s.decoderState, ts := s.transferState, addr := s.currentAddress, dir := s.direction, role := s.driveRole
    pos := s.bitPosition, sb := s.shiftByte, cl := s.clockLevel, dl := s.dataLevel, ld := s.lastDataLevel
    calls := s.history }

/-- What a call leaves, if it answers a next state. -/
def shown (r : Result) : Option Shown :=
  match r with
  | .next s => some (shownState s)
  | .fault _ => none
  | .refused _ => none

/-- A step in which a `UPD` word is the operation presented. -/
def cell (w : OpWord) (s : State) : Option Shown := shown (step { s with pending := [updCall w] })

/-- What the vectors expect where no transaction, or a write, is left. -/
def wr (st : DecoderState) (ts : TransferState) (a : Option Addr) (pos : BitCount) (sb : Byte) (cl dl ld : Level)
    (calls : List RegistryCall) : Option Shown :=
  some { st := st, ts := ts, addr := a, dir := .write, role := .txMaster, pos := pos, sb := sb, cl := cl, dl := dl
         ld := ld, calls := calls }

/-- What the vectors expect in a read of 0x50. -/
def rd (st : DecoderState) (pos : BitCount) (sb : Byte) (cl dl ld : Level) (calls : List RegistryCall) :
    Option Shown :=
  some { st := st, ts := .sendData, addr := some 0x50#7, dir := .read, role := .txSlave, pos := pos, sb := sb, cl := cl
         dl := dl, ld := ld, calls := calls }

theorem test_V1 :
    cell 0b0010001#16 (master .receive .receiveData (some 0x50#7) 3 0x05#8 false true false) =
      wr .receive .receiveData (some 0x50#7) 3 0x05#8 false true true [] := by decide

theorem test_V2 :
    cell 0b0010110#16 (master .receive .receiveData (some 0x50#7) 3 0x05#8 false true true) =
      wr .receive .receiveData (some 0x50#7) 4 0x0A#8 true false false [] := by decide

theorem test_V3 :
    cell 0b0010011#16 (master .receive .receiveData (some 0x50#7) 3 0x05#8 false true false) =
      wr .receive .receiveData (some 0x50#7) 4 0x0B#8 true true true [] := by decide

theorem test_V4 :
    cell 0b0011100#16 (master .receive .receiveData (some 0x50#7) 3 0x05#8 true true true) =
      wr .receive .receiveData (some 0x50#7) 3 0x05#8 false true false [] := by decide

theorem test_V5 :
    cell 0b0011111#16 (master .receive .receiveData (some 0x50#7) 3 0x05#8 true true true) =
      wr .receive .receiveData (some 0x50#7) 3 0x05#8 true true true [] := by decide

theorem test_V6 :
    cell 0b0011110#16 (master .receive .receiveData (some 0x50#7) 3 0x05#8 true true true) =
      wr .receive .idle (some 0x50#7) 0 0x05#8 true true false [] := by decide

theorem test_V7 :
    cell 0b0011011#16 (master .receive .receiveData (some 0x50#7) 3 0x05#8 true true false) =
      wr .idle .idle none 3 0x05#8 true true true [.transactionEnd 0x50#7] := by decide

theorem test_V8b :
    cell 0b0011001#16 (master .receive .receiveData (some 0x50#7) 3 0x05#8 true true false) =
      wr .receive .receiveData (some 0x50#7) 3 0x05#8 false true true [] := by decide

theorem test_V9 :
    cell 0b0001110#16 (master .idle .idle none 0 0x00#8 true true true) =
      wr .receive .idle none 0 0x00#8 true true false [] := by decide

theorem test_V10 :
    cell 0b0000110#16 (master .idle .idle none 5 0x00#8 false true true) =
      wr .receive .idle none 0 0x00#8 true false false [] := by decide

theorem test_V11 :
    cell 0b0001011#16 (master .idle .idle none 0 0x00#8 true false false) =
      wr .idle .idle none 0 0x00#8 true false true [] := by decide

theorem test_V12a :
    cell 0b0000010#16 (master .idle .idle none 0 0x00#8 false true false) =
      wr .idle .idle none 0 0x00#8 true false false [] := by decide

theorem test_V12b :
    cell 0b0000011#16 (master .idle .idle none 0 0x00#8 false false false) =
      wr .idle .idle none 0 0x00#8 true true true [] := by decide

theorem test_V12c :
    cell 0b0001010#16 (master .idle .idle none 0 0x00#8 true true false) =
      wr .idle .idle none 0 0x00#8 true true false [] := by decide

theorem test_V13 :
    cell 0b0010111#16 (master .receive .idle none 0 0x00#8 false true true) =
      wr .receive .idle none 1 0x01#8 true true true [] := by decide

theorem test_V14 :
    cell 0b0010010#16 (master .receive .idle none 7 0x50#8 false false false) =
      wr .acknowledge .receiveAddress (some 0x50#7) 8 0xA0#8 true false false
        [.hasDevice 0x50#7 true, .transactionStart 0x50#7] := by decide

theorem test_V15 :
    cell 0b0011011#16 (master .receive .receiveData (some 0x50#7) 5 0x15#8 true false false) =
      wr .idle .idle none 5 0x15#8 true false true [.transactionEnd 0x50#7] := by decide

theorem test_V15b :
    cell 0b0011011#16 (master .receive .idle none 1 0x00#8 true false false) =
      wr .idle .idle none 1 0x00#8 true false true [] := by decide

theorem test_V16b :
    cell 0b0011110#16 (master .receive .invalid none 1 0x4B#8 true true true) =
      wr .receive .idle none 0 0x4B#8 true true false [] := by decide

theorem test_V17 :
    cell 0b0100111#16 (master .receiveWait .receiveAddress (some 0x50#7) 0 0xA0#8 false false true) =
      wr .receive .receiveAddress (some 0x50#7) 1 0x41#8 true true true [] := by decide

theorem test_V18 :
    cell 0b0101011#16 (master .receiveWait .receiveAddress (some 0x50#7) 0 0xA0#8 true false false) =
      wr .idle .idle none 0 0xA0#8 true false true [.transactionEnd 0x50#7] := by decide

theorem test_V19 :
    cell 0b0101110#16 (master .receiveWait .receiveAddress (some 0x50#7) 0 0xA0#8 true false true) =
      wr .receiveWait .idle (some 0x50#7) 0 0xA0#8 true false false [] := by decide

theorem test_V20 :
    cell 0b0110111#16 (master .acknowledge .receiveAddress (some 0x50#7) 8 0xA0#8 false false true) =
      wr .receiveWait .receiveAddress (some 0x50#7) 0 0xA0#8 true false true [] := by decide

theorem test_V21 :
    cell 0b0110111#16 (slave .acknowledge 8 0x3C#8 false true true) =
      rd .transmit 0 0x3C#8 true false true [] := by decide

theorem test_V22 :
    cell 0b0111011#16 (master .acknowledge .receiveAddress (some 0x50#7) 8 0xA0#8 true false false) =
      wr .idle .idle none 8 0xA0#8 true false true [.transactionEnd 0x50#7] := by decide

theorem test_V23 :
    cell 0b0111110#16 (slave .acknowledge 8 0xA1#8 true true true) =
      rd .acknowledge 8 0xA1#8 true true false [] := by decide

theorem test_V25 :
    cell 0b0010011#16 (master .receive .idle none 7 0x50#8 false false false) =
      rd .acknowledge 8 0x3C#8 true true true
        [.hasDevice 0x50#7 true, .transactionStart 0x50#7, .readByte 0x50#7 0x3C#8] := by decide

theorem test_V26 :
    cell 0b0010011#16 (master .receive .idle none 7 0x30#8 false false false) =
      wr .acknowledge .invalid none 8 0x61#8 true true true [.hasDevice 0x30#7 false] := by decide

theorem test_V28 :
    cell 0b0010011#16 (master .receive .idle (some 0x50#7) 7 0x50#8 false false false) =
      rd .acknowledge 8 0x3C#8 true true true [.hasDevice 0x50#7 true, .readByte 0x50#7 0x3C#8] := by decide

theorem test_V29 :
    cell 0b0010010#16 (master .receive .idle (some 0x50#7) 7 0x30#8 false false false) =
      wr .acknowledge .invalid (some 0x50#7) 8 0x60#8 true false false [.hasDevice 0x30#7 false] := by decide

theorem test_V30 :
    cell 0b0010011#16 (master .receive .receiveAddress (some 0x50#7) 7 0x52#8 false false false) =
      wr .acknowledge .receiveData (some 0x50#7) 8 0xA5#8 true true true [.writeByte 0x50#7 0xA5#8] := by decide

theorem test_V31 :
    cell 0b0010011#16 (master .receive .receiveData (some 0x50#7) 7 0x00#8 false false false) =
      wr .acknowledge .receiveData (some 0x50#7) 8 0x01#8 true true true [.writeByte 0x50#7 0x01#8] := by decide

theorem test_V32 :
    cell 0b0010011#16 (master .receive .invalid none 7 0x7F#8 false false false) =
      wr .acknowledge .invalid none 8 0xFF#8 true true true [] := by decide

theorem test_V27 :
    cell 0b0010111#16 (master .receive .idle (some 0x50#7) 7 0x51#8 false false true) =
      some { st := .acknowledge, ts := .sendData, addr := some 0x51#7, dir := .read, role := .txSlave, pos := 8
             sb := 0x7E#8, cl := true, dl := true, ld := true
             calls := [.hasDevice 0x51#7 true, .readByte 0x51#7 0x7E#8] } := by decide

theorem test_V34 :
    cell 0b1010111#16 (slave .transmit 0 0x3C#8 false false true) =
      rd .transmit 1 0x78#8 true false true [] := by decide

theorem test_V34b :
    cell 0b1010010#16 (slave .transmit 2 0xF0#8 false false false) =
      rd .transmit 3 0xE0#8 true true false [] := by decide

theorem test_V36 :
    cell 0b1011101#16 (slave .transmit 8 0x00#8 true false true) =
      rd .transacknowledge 8 0x00#8 false false true [] := by decide

theorem test_V36b :
    cell 0b1011101#16 (slave .transmit 3 0xE0#8 true true true) =
      rd .transmit 3 0xE0#8 false true true [] := by decide

theorem test_V37 :
    cell 0b1100111#16 (slave .transacknowledge 8 0x00#8 false false true) =
      wr .idle .idle none 8 0x00#8 true true true [.transactionEnd 0x50#7] := by decide

theorem test_V38 :
    cell 0b1100010#16 { slave .transacknowledge 8 0x00#8 false false false with
      registry := { devices := .declared [{ addr := 0x50#7, bytes := [0x81#8] }], world := 0 } } =
      rd .transmitStart 0 0x81#8 true false false [.readByte 0x50#7 0x81#8] := by decide

theorem test_V39 :
    cell 0b1000111#16 (slave .transmitStart 0 0x81#8 false false true) =
      rd .transmit 1 0x02#8 true true true [] := by decide

theorem test_V40 :
    cell 0b1001011#16 (slave .transmitStart 0 0x81#8 true false false) =
      wr .idle .idle none 0 0x81#8 true false true [.transactionEnd 0x50#7] := by decide

theorem test_V40b :
    cell 0b1001000#16 (slave .transmitStart 0 0x81#8 true false false) =
      rd .transmitStart 0 0x81#8 false false false [] := by decide

theorem test_V41 :
    cell 0b1011011#16 (slave .transmit 3 0xE0#8 true true false) =
      wr .idle .idle none 3 0xE0#8 true true true [.transactionEnd 0x50#7] := by decide

theorem test_V42 :
    cell 0b1011110#16 (slave .transmit 3 0xE0#8 true true true) =
      rd .transmit 3 0xE0#8 true true false [] := by decide

theorem test_V43a :
    cell 0b1111110#16 { slave .transmitWait 8 0x00#8 true false true with
      registry := { devices := .declared [{ addr := 0x50#7, bytes := [0x99#8] }], world := 0 } } =
      rd .transmitWait 0 0x99#8 true false false [.readByte 0x50#7 0x99#8] := by decide

theorem test_V43b :
    cell 0b1111011#16 (slave .transmitWait 8 0x00#8 true false false) =
      wr .idle .idle none 8 0x00#8 true false true [.transactionEnd 0x50#7] := by decide

theorem test_V43c :
    cell 0b1110011#16 (slave .transmitWait 8 0x00#8 false false false) =
      rd .transmitWait 8 0x00#8 true true true [] := by decide

theorem test_V43d :
    cell 0b1111110#16 (master .transmitWait .idle none 8 0x12#8 true false true) =
      wr .transmitWait .idle none 0 0x12#8 true false false [] := by decide

theorem test_V8a :
    shown (exec (.update true false) (master .receive .receiveData (some 0x50#7) 3 0x05#8 false true true)) =
      wr .receive .receiveData (some 0x50#7) 4 0x0A#8 true false false [] := by decide

theorem test_V16 :
    shown (exec (.update true false) (master .receive .receiveData (some 0x50#7) 1 0x4B#8 true true true)) =
      wr .receive .idle (some 0x50#7) 0 0x4B#8 true true false [] := by decide

theorem test_V21b :
    shown (exec (.update true false) (master .acknowledge .receiveAddress (some 0x50#7) 8 0xA0#8 false false false)) =
      wr .receiveWait .receiveAddress (some 0x50#7) 0 0xA0#8 true false false [] := by decide

theorem test_V24 :
    shown (exec (.consumeIdleWr 0x50#7) (master .receive .idle none 8 0xA0#8 false false false)) =
      wr .receive .receiveAddress (some 0x50#7) 8 0xA0#8 false false false
        [.hasDevice 0x50#7 true, .transactionStart 0x50#7] := by decide

theorem test_V33 :
    shown (exec .endTransaction (master .receive .idle none 1 0x00#8 true false false)) =
      wr .receive .idle none 1 0x00#8 true false false [] := by decide

/-- V35: three calls with unchanged levels drive one bit. -/
theorem test_V35 :
    shown (runUpdates [(true, true), (true, true), (true, true)] (slave .transmit 2 0xF0#8 false false true)) =
      rd .transmit 3 0xE0#8 true true true [] := by decide

/-- V44: after CREATE both getters return 1. -/
theorem test_V44 :
    exec .getClockLevel State.reset = .next { State.reset with reply := .level true } ∧
    exec .getDataLevel State.reset = .next { State.reset with reply := .level true } := ⟨rfl, rfl⟩

theorem test_V45 :
    shown (exec (.update false true) State.reset) = wr .idle .idle none 0 0x00#8 false true true [] := by decide

/-- V46: DESTROY sends no `transaction_end`. -/
theorem test_V46 :
    shown (exec .destroy (master .acknowledge .receiveAddress (some 0x50#7) 8 0xA0#8 false false false)) =
      wr .acknowledge .receiveAddress (some 0x50#7) 8 0xA0#8 false false false [] := by decide

theorem test_V47b :
    shown (exec (.update false false) State.reset) = wr .idle .idle none 0 0x00#8 false true false [] := by decide

theorem test_V47d :
    shown (exec (.update true true) State.reset) = wr .idle .idle none 0 0x00#8 true true true [] := by decide

/-- V50: a caller that skips the falling edge gets no sample. -/
theorem test_V50 :
    shown (runUpdates [(false, true), (true, true)] (master .receive .receiveData none 3 0x05#8 true true true)) =
      wr .receive .receiveData none 4 0x0B#8 true true true [] ∧
    shown (exec (.update true true) (master .receive .receiveData none 3 0x05#8 true true true)) =
      wr .receive .receiveData none 3 0x05#8 true true true [] := by decide

/-- R70: a declared device whose bytes are used up returns 0xFF. -/
theorem test_exhausted_device :
    shown (exec .nextByte { slave .transacknowledge 8 0x00#8 false false false with
      registry := { devices := .declared [{ addr := 0x50#7, bytes := [] }], world := 0 } }) =
      rd .transacknowledge 8 0xFF#8 false false false [.readByte 0x50#7 0xFF#8] := by decide

/-- The anomalies recorded: an absent address (R221), a not-acknowledge (R222), an ignored stop (R223). -/
theorem test_anomalies :
    (addressMiss 0x30#7 State.reset).trace = [.unaddressedDevice 0x30#7] ∧
    (raiseAnomaly .nakEnd State.reset).trace = [.nakEnd] ∧
    anomalyCode (.ignoredTransition .idle .stop) = 3 := by decide

/-- R83 with its switch off: TRANSMIT ignores a stop and keeps the transaction. -/
theorem test_stop_switch_off :
    (stopUnderSwitch { stopAllStates := false, idleLooseStart := true } .transmit
      (slave .transmit 3 0xE0#8 true true false)).currentAddress = some 0x50#7 := by decide

/-- An empty queue: nothing happens. -/
theorem test_idle_step : step State.reset = .next State.reset := rfl

/-- Program P1's quads: `S; WBYTE 0xA0; SACK; WBYTE 0xA5; SACK; P`. -/
theorem test_P1_quads :
    (startMove ++ wbyte 0xA0#8 ++ releasedClock ++ wbyte 0xA5#8 ++ releasedClock ++ stopMove).map quad =
      [2, 0] ++ [1, 3, 1, 0, 2, 0, 1, 3, 1, 0, 2, 0, 0, 2, 0, 0, 2, 0, 0, 2, 0, 0, 2, 0] ++ [1, 3, 1] ++
      [1, 3, 1, 0, 2, 0, 1, 3, 1, 0, 2, 0, 0, 2, 0, 1, 3, 1, 0, 2, 0, 1, 3, 1] ++ [1, 3, 1] ++ [0, 2, 3] := by decide

/-- Program P3's `Sr` and program P2's `MACK`. -/
theorem test_Sr_MACK_quads :
    repeatedStartMove.map quad = [1, 3, 2, 0] ∧ masterAcknowledge.map quad = [0, 2, 0] := by decide

/-! ### States and operands that meet the hypotheses of the statements -/

/-- A live endpoint that selects the cells of `st` with entry levels `pc`, `pd`, in a write to 0x50. -/
def line (st : DecoderState) (pc pd : Level) (pos : BitCount) : State :=
  master st .receiveData (some 0x50#7) pos 0xA5#8 pc true pd

/-- A live endpoint whose next byte is `b`, in sub-state `ts`. -/
def byte (ts : TransferState) (a : Option Addr) (b : Byte) : State := master .receive ts a 8 b true true true

theorem witness_StepRunsTheDecodedOperation :
    ({ line .transmit false true 3 with pending := [updCall 0b1010111#16] }).pending = updCall 0b1010111#16 :: [] ∧
    decode (updCall 0b1010111#16) = .ok (.transmitRise true true) ∧ (line .transmit false true 3).pending = [] := by
  decide

theorem witness_ReservedCodesAreRefused :
    5 ≤ (5#16).toNat ∧ (7#16).toNat ≤ 7 ∧ 5 * 256 ≤ (0x500#16).toNat ∧ (0x7FF#16).toNat < 8 * 256 ∧
    ({ line .idle true true 0 with pending := [{ fmt := .ctl, word := 3#16, beside := .none }] }).pending =
      { fmt := .ctl, word := 3#16, beside := .none } :: [] ∧
    decode { fmt := .ctl, word := 3#16, beside := .none } = .error .reservedCtlCommand := by decide

theorem witness_AcceptedCallsAreTheEncodings :
    decode { fmt := .cbyte, word := 0x4FF#16, beside := .none } = .ok (.consumeInvalid 0xFF#8) := by decide

theorem witness_AddressByteIsAddressThenReadFlag :
    (byte .idle none 0xA1#8).transferState = .idle ∧
    (byte .idle none 0xA1#8).registry.has ((byte .idle none 0xA1#8).shiftByte.extractLsb' 1 7) = true := by decide

theorem witness_StartInIdleOpensReception :
    Selected .idle true true (line .idle true true 5) ∧ Selected .idle false true (line .idle false true 8) := by
  decide

theorem witness_OtherClassesInIdleOnlyRecord :
    Selected .idle false false (line .idle false false 0) ∧ Selected .idle false true (line .idle false true 0) ∧
    Selected .idle true false (line .idle true false 0) ∧ Selected .idle true true (line .idle true true 0) := by
  decide

theorem witness_RisingEdgeSamplesABit :
    (Selected .receive false true (line .receive false true 6) ∧ (line .receive false true 6).bitPosition < 7) ∧
    (Selected .receive false true (line .receive false true 7) ∧ (line .receive false true 7).bitPosition = 7) ∧
    (Selected .receiveWait false true (line .receiveWait false true 0) ∧
      (line .receiveWait false true 0).bitPosition < 7) ∧
    (Selected .receiveWait false true (line .receiveWait false true 7) ∧
      (line .receiveWait false true 7).bitPosition = 7) := by decide

theorem witness_NamedStopsEndTheTransaction :
    Selected .receive true false (line .receive true false 5) ∧
    Selected .transmitStart true false (line .transmitStart true false 0) ∧
    Selected .transmitWait true false (line .transmitWait true false 8) := by decide

theorem witness_DecidedStopsEndTheTransaction :
    Selected .receiveWait true false (line .receiveWait true false 0) ∧
    Selected .acknowledge true false (line .acknowledge true false 8) ∧
    Selected .transmit true false (line .transmit true false 3) ∧
    Selected .transacknowledge true false (line .transacknowledge true false 8) := by decide

theorem witness_ReceiveWaitSharesTheReceiveBody :
    Selected .receiveWait true true (line .receiveWait true true 0) ∧
    Selected .receiveWait false true (line .receiveWait false true 0) ∧
    Selected .receiveWait true false (line .receiveWait true false 0) := by decide

theorem witness_RepeatedStartAndQuietClassesInReceive :
    Selected .receive true true (line .receive true true 1) ∧
    Selected .receive false true (line .receive false true 1) ∧
    Selected .receive true false (line .receive true false 1) := by decide

theorem witness_AcknowledgeDrivesLowAndHandsOver :
    Selected .acknowledge false true (line .acknowledge false true 8) ∧
    (line .acknowledge false true 8).driveRole = .txMaster ∧
    Selected .acknowledge false true (slave .acknowledge 8 0x3C#8 false true true) ∧
    (slave .acknowledge 8 0x3C#8 false true true).driveRole = .txSlave := by decide

theorem witness_OtherClassesInAcknowledgeAndTransmitStart :
    Selected .acknowledge true true (line .acknowledge true true 8) ∧
    Selected .acknowledge false true (line .acknowledge false true 8) ∧
    Selected .acknowledge true false (line .acknowledge true false 8) ∧
    Selected .transmitStart false true (line .transmitStart false true 0) ∧
    Selected .transmitStart true false (line .transmitStart true false 0) ∧
    (Selected .transmitStart true true (line .transmitStart true true 7) ∧
      (line .transmitStart true true 7).bitPosition ≠ 8) ∧
    (Selected .transmitStart true true (line .transmitStart true true 8) ∧
      (line .transmitStart true true 8).bitPosition = 8) := by decide

theorem witness_IgnoredStartsAreRecorded :
    Selected .acknowledge true true (line .acknowledge true true 8) ∧
    Selected .transmitStart true true (slave .transmitStart 0 0x81#8 true true true) ∧
    Selected .transmit true true (slave .transmit 3 0xE0#8 true true true) ∧
    Selected .transacknowledge true true (slave .transacknowledge 8 0x00#8 true true true) := by decide

theorem witness_RisingEdgeDrivesABit :
    (Selected .transmitStart false true (slave .transmitStart 0 0x81#8 false false true) ∧
      (slave .transmitStart 0 0x81#8 false false true).bitPosition ≠ 8) ∧
    (Selected .transmit false true (slave .transmit 7 0x80#8 false false true) ∧
      (slave .transmit 7 0x80#8 false false true).bitPosition ≠ 8) := by decide

theorem witness_FallAndQuietClassesInTransmit :
    (Selected .transmit true true (line .transmit true true 8) ∧ (line .transmit true true 8).bitPosition = 8) ∧
    (Selected .transmit true true (line .transmit true true 7) ∧ (line .transmit true true 7).bitPosition ≠ 8) ∧
    Selected .transmit false true (line .transmit false true 3) ∧
    Selected .transmit true false (line .transmit true false 3) := by decide

theorem witness_NotAcknowledgeAndQuietClassesInTransacknowledge :
    Selected .transacknowledge false true (slave .transacknowledge 8 0x00#8 false false true) ∧
    Selected .transacknowledge true false (slave .transacknowledge 8 0x00#8 true false false) ∧
    Selected .transacknowledge true true (slave .transacknowledge 8 0x00#8 true false true) := by decide

theorem witness_AcknowledgedByteFetchesTheNext :
    (Selected .transacknowledge false true (slave .transacknowledge 8 0x00#8 false false true) ∧
      (slave .transacknowledge 8 0x00#8 false false true).currentAddress = some 0x50#7) ∧
    (Selected .transacknowledge false true (master .transacknowledge .idle none 8 0x00#8 false false true) ∧
      (master .transacknowledge .idle none 8 0x00#8 false false true).currentAddress = none) := by decide

theorem witness_StartAndQuietClassesInTransmitWait :
    (Selected .transmitWait true true (line .transmitWait true true 8) ∧
      (line .transmitWait true true 8).currentAddress = some 0x50#7) ∧
    Selected .transmitWait false true (line .transmitWait false true 8) ∧
    Selected .transmitWait true false (line .transmitWait true false 8) := by decide

theorem witness_RiseAtEightIsRefused :
    (line .receive false true 8).bitPosition = 8 ∧ Selected .receive false true (line .receive false true 8) ∧
    Selected .receiveWait false true (line .receiveWait false true 8) ∧
    Selected .transmitStart false true (line .transmitStart false true 8) ∧
    Selected .transmit false true (line .transmit false true 8) := by decide

theorem witness_UnselectedCellsAreRefused :
    (line .idle true true 0).life = .live ∧ ¬ Selected .receive true true (line .idle true true 0) ∧
    ¬ ByteSelected .idle (addressByte 0x50#7 false) (byte .idle none 0xA1#8) ∧
    ¬ ByteSelected .idle (addressByte 0x50#7 true) (byte .idle none 0xA0#8) ∧
    ¬ ByteSelected .receiveAddress 0xA5#8 (byte .receiveAddress none 0xA4#8) ∧
    ¬ ByteSelected .receiveData 0xA5#8 (byte .receiveAddress none 0xA5#8) ∧
    ¬ ByteSelected .sendData 0xA5#8 (byte .receiveAddress none 0xA5#8) ∧
    ¬ ByteSelected .invalid 0xA5#8 (byte .receiveAddress none 0xA5#8) := by decide

theorem witness_DestroyedEndpointRefusesOperations :
    (line .receive true true 0).life = .live ∧
    ({ line .receive true true 0 with life := .destroyed }).life = .destroyed ∧
    ∀ ref label, Instr.nextByte ≠ .create ref label := by
  refine ⟨rfl, rfl, ?_⟩
  intro _ _
  simp

theorem witness_UpdateIsTheConsolidatedPseudocode : (slave .transmit 3 0xE0#8 true true false).life = .live := rfl

theorem witness_UpdateCompletesBelowEight :
    (line .receive false true 7).life = .live ∧
    ¬ ((line .receive false true 7).clockLevel = false ∧ true = true ∧ (line .receive false true 7).bitPosition = 8 ∧
        ((line .receive false true 7).decoderState = .receive ∨
          (line .receive false true 7).decoderState = .receiveWait ∨
          (line .receive false true 7).decoderState = .transmitStart ∨
          (line .receive false true 7).decoderState = .transmit)) := by decide

theorem witness_NoEdgeUpdateChangesNothing : (slave .transmit 3 0xE0#8 true true true).life = .live := rfl

theorem witness_StopAlwaysTerminates :
    (line .acknowledge true false 8).life = .live ∧ (line .acknowledge true false 8).decoderState ≠ .idle ∧
    (line .acknowledge true false 8).clockLevel = true ∧ (line .acknowledge true false 8).lastDataLevel = false := by
  decide

/-- For the statements about the next state of an `update`: one that answers, with a rising edge and without. -/
theorem witness_update_answers :
    (∃ t, exec (.update true true) (slave .transmit 3 0xE0#8 false true false) = .next t) ∧
    (slave .transmit 3 0xE0#8 false true false).clockLevel = false ∧
    (∃ t, exec (.update true true) (line .receive true false 5) = .next t) ∧
    ¬ ((line .receive true false 5).clockLevel = false ∧ true = true) := ⟨⟨_, rfl⟩, rfl, ⟨_, rfl⟩, by decide⟩

theorem witness_ClockLevelIsTheLastCallsLevel :
    ∃ t, exec (.update false true) (line .receive true false 5) = .next t := ⟨_, rfl⟩

theorem witness_DataLevelChangesOnlyOnARisingEdge :
    (∃ t, exec (.update true true) (slave .transmit 3 0x60#8 false true true) = .next t) ∧
    (slave .transmit 3 0x60#8 false true true).clockLevel = false ∧
    (∃ t, exec (.update false true) (slave .transmit 3 0x60#8 true true true) = .next t) ∧
    ¬ ((slave .transmit 3 0x60#8 true true true).clockLevel = false ∧ false = true) ∧
    (slave .transmit 3 0x60#8 true true true).life = .live := ⟨⟨_, rfl⟩, rfl, ⟨_, rfl⟩, by decide, rfl⟩

theorem witness_BitPositionCountsRisingEdges :
    ∃ t, exec (.update true false) (line .idle false true 5) = .next t := ⟨_, rfl⟩

theorem witness_UpdateMakesTheTabledRegistryCalls :
    ∃ t, exec (.update true true) (master .receive .idle none 7 0x50#8 false false false) = .next t := ⟨_, rfl⟩

theorem witness_AbsorbedBytesReachNoDevice :
    EndpointInv (master .receive .invalid none 7 0x7F#8 false true true) ∧
    (master .receive .invalid none 7 0x7F#8 false true true).transferState = .invalid ∧
    ∃ t, exec (.update true true) (master .receive .invalid none 7 0x7F#8 false true true) = .next t :=
  ⟨by decide, rfl, ⟨_, rfl⟩⟩

theorem witness_UpdateRecordsAtMostOneAnomaly :
    ∃ t, exec (.update true true) (slave .transacknowledge 8 0x00#8 false false true) = .next t := ⟨_, rfl⟩

theorem witness_UpdateRecordsDataAndLeavesTheAttachment :
    ∃ t, exec (.update true false) (line .acknowledge true true 8) = .next t := ⟨_, rfl⟩

theorem witness_BusNameIsInert :
    ∃ t, exec (.update true true) (line .receive true false 5) = .next t := ⟨_, rfl⟩

theorem witness_ConsumeByteSelectsByTheSubState : (byte .idle none 0xA1#8).life = .live := rfl

theorem witness_AbsentAddressIsAbsorbed :
    ByteSelected .idle (addressByte 0x30#7 false) (byte .idle none 0x60#8) ∧
    (byte .idle none 0x60#8).registry.has 0x30#7 = false ∧
    ByteSelected .idle (addressByte 0x7F#7 true) (byte .idle none 0xFF#8) ∧
    (byte .idle none 0xFF#8).registry.has 0x7F#7 = false := by decide

theorem witness_WriteAddressOpensTheTransaction :
    ByteSelected .idle (addressByte 0x50#7 false) (byte .idle none 0xA0#8) ∧
    (byte .idle none 0xA0#8).registry.has 0x50#7 = true ∧ (byte .idle none 0xA0#8).currentAddress = none ∧
    ByteSelected .idle (addressByte 0x50#7 false) (byte .idle (some 0x51#7) 0xA0#8) ∧
    (byte .idle (some 0x51#7) 0xA0#8).registry.has 0x50#7 = true ∧
    (byte .idle (some 0x51#7) 0xA0#8).currentAddress ≠ none := by decide

theorem witness_ReadAddressPrefetchesTheFirstByte :
    ByteSelected .idle (addressByte 0x51#7 true) (byte .idle none 0xA3#8) ∧
    (byte .idle none 0xA3#8).registry.has 0x51#7 = true ∧ (byte .idle none 0xA3#8).currentAddress = none ∧
    ByteSelected .idle (addressByte 0x51#7 true) (byte .idle (some 0x50#7) 0xA3#8) ∧
    (byte .idle (some 0x50#7) 0xA3#8).registry.has 0x51#7 = true ∧
    (byte .idle (some 0x50#7) 0xA3#8).currentAddress ≠ none := by decide

theorem witness_DataBytesAreForwarded :
    (byte .receiveAddress (some 0x50#7) 0xA5#8).currentAddress = some 0x50#7 ∧
    ByteSelected .receiveAddress 0xA5#8 (byte .receiveAddress (some 0x50#7) 0xA5#8) ∧
    (byte .receiveData (some 0x50#7) 0x00#8).currentAddress = some 0x50#7 ∧
    ByteSelected .receiveData 0x00#8 (byte .receiveData (some 0x50#7) 0x00#8) := by decide

theorem witness_WithoutAnAddressNoDataCallIsMade :
    (byte .receiveAddress none 0xA5#8).currentAddress = none ∧
    ByteSelected .receiveAddress 0xA5#8 (byte .receiveAddress none 0xA5#8) ∧
    ByteSelected .receiveData 0xA5#8 (byte .receiveData none 0xA5#8) ∧
    (byte .receiveData none 0xA5#8).currentAddress = none ∧
    Selected .transmitWait true true (master .transmitWait .idle none 8 0x12#8 true false true) ∧
    (master .transmitWait .idle none 8 0x12#8 true false true).currentAddress = none := by decide

theorem witness_BytesInSendDataAndInvalidAreDiscarded :
    ByteSelected .sendData 0x3C#8 (byte .sendData (some 0x50#7) 0x3C#8) ∧
    ByteSelected .invalid 0xFF#8 (byte .invalid none 0xFF#8) := by decide

theorem witness_NextByteAndEndTransaction :
    (byte .sendData (some 0x50#7) 0x3C#8).life = .live ∧
    (byte .sendData (some 0x50#7) 0x3C#8).currentAddress = some 0x50#7 ∧
    (byte .idle none 0x3C#8).life = .live ∧ (byte .idle none 0x3C#8).currentAddress = none := by decide

theorem witness_RegistryCallsAreMadeAndRecorded : (byte .sendData (some 0x50#7) 0x3C#8).life = .live := rfl

theorem witness_HasDeviceHasNoSideEffect : (byte .idle none 0x60#8).life = .live := rfl

theorem witness_GettersReturnWhatIsStored : (slave .transmit 3 0xE0#8 true true true).life = .live := rfl

theorem witness_DeclaredDevicesAnswerInOrder :
    risingAddresses [{ addr := 0x00#7, bytes := [] }, { addr := 0x50#7, bytes := [0x3C#8, 0x81#8] },
      { addr := 0x7F#7, bytes := [0x7E#8] }] = true ∧
    ({ addr := 0x7F#7, bytes := [0x7E#8] } : Device) ∈ ([{ addr := 0x00#7, bytes := [] },
      { addr := 0x50#7, bytes := [0x3C#8, 0x81#8] }, { addr := 0x7F#7, bytes := [0x7E#8] }] : List Device) ∧
    (0x50#7 : Addr) ≠ 0x7F#7 := by decide

/-- R70: the second device's bytes come in order, then 0xFF, whatever was read of the first. -/
theorem test_declared_second_device :
    (readTimes 0x50#7 1 registry).byte 0x51#7 = 0x7E#8 ∧ (readTimes 0x51#7 1 registry).byte 0x51#7 = 0xFF#8 ∧
    (readTimes 0x51#7 2 registry).byte 0x50#7 = 0x3C#8 := by decide

theorem witness_StepKeepsTheEndpointInvariants :
    EndpointInv { slave .transmit 7 0x80#8 false false true with
      pending := [{ fmt := .host, word := 0b01011#16, beside := .none }] } ∧
    HostOnly { slave .transmit 7 0x80#8 false false true with
      pending := [{ fmt := .host, word := 0b01011#16, beside := .none }] } ∧
    ∃ t, step { slave .transmit 7 0x80#8 false false true with
      pending := [{ fmt := .host, word := 0b01011#16, beside := .none }] } = .next t :=
  ⟨by decide, by decide, ⟨_, rfl⟩⟩

theorem witness_InvariantsKeepUpdateLive :
    EndpointInv (slave .transmit 7 0x80#8 false false true) ∧ (slave .transmit 7 0x80#8 false false true).life = .live :=
  ⟨by decide, rfl⟩

theorem witness_StepKeepsTheHistoryBracketed :
    Bracketed { byte .idle (some 0x50#7) 0xA3#8 with
      history := [.hasDevice 0x50#7 true, .transactionStart 0x50#7]
      pending := [{ fmt := .ctl, word := 0#16, beside := .none }] } ∧
    NoForeignRegistryCall { byte .idle (some 0x50#7) 0xA3#8 with
      history := [.hasDevice 0x50#7 true, .transactionStart 0x50#7]
      pending := [{ fmt := .ctl, word := 0#16, beside := .none }] } ∧
    ∃ t, step { byte .idle (some 0x50#7) 0xA3#8 with
      history := [.hasDevice 0x50#7 true, .transactionStart 0x50#7]
      pending := [{ fmt := .ctl, word := 0#16, beside := .none }] } = .next t :=
  ⟨rfl, by decide, ⟨_, rfl⟩⟩

theorem witness_StepKeepsTheRegistryCanonical :
    ({ slave .transmit 3 0x00#8 true true true with
      pending := [{ fmt := .ctl, word := 1#16, beside := .none }] }).registry.wf = true ∧
    ∃ t, step { slave .transmit 3 0x00#8 true true true with
      pending := [{ fmt := .ctl, word := 1#16, beside := .none }] } = .next t := ⟨by decide, ⟨_, rfl⟩⟩

theorem witness_ByteOnTheWireIsWrittenToTheDevice :
    (line .receiveWait false true 0).life = .live ∧
    ((line .receiveWait false true 0).decoderState = .receive ∨
      (line .receiveWait false true 0).decoderState = .receiveWait) ∧
    (line .receiveWait false true 0).bitPosition = 0 ∧ (line .receiveWait false true 0).clockLevel = false ∧
    ((line .receiveWait false true 0).transferState = .receiveAddress ∨
      (line .receiveWait false true 0).transferState = .receiveData) ∧
    (line .receiveWait false true 0).currentAddress = some 0x50#7 := by decide

/-- The other sub-state, with both directions. -/
theorem witness_ByteOnTheWireIsWrittenToTheDevice_first :
    (master .receive .receiveAddress (some 0x50#7) 0 0xA0#8 false false true).life = .live ∧
    (master .receive .receiveAddress (some 0x50#7) 0 0xA0#8 false false true).bitPosition = 0 ∧
    (master .receive .receiveAddress (some 0x50#7) 0 0xA0#8 false false true).transferState = .receiveAddress ∧
    (master .receive .receiveAddress (some 0x50#7) 0 0xA0#8 false false true).direction = .write ∧
    ({ master .receive .receiveAddress (some 0x50#7) 0 0xA0#8 false false true with
      direction := .read }).direction = .read := by decide

theorem witness_ByteIsReadBackOnTheWire :
    (slave .transmitStart 0 0x81#8 false false false).life = .live ∧
    ((slave .transmitStart 0 0x81#8 false false false).decoderState = .transmitStart ∨
      (slave .transmitStart 0 0x81#8 false false false).decoderState = .transmit) ∧
    (slave .transmitStart 0 0x81#8 false false false).bitPosition = 0 ∧
    (slave .transmitStart 0 0x81#8 false false false).clockLevel = false := by decide

end Sys2Proof.Tests
end

section
/-! What one answered `update` does, said once as an inversion (R86 to R92), and the two line levels after it (R11, R12). -/

namespace Sys2Proof.Machine

/-! ### The end states of an `update` -/

/-- The end states of an `update(c, d)` that starts at entry levels `pc`, `pd`: one constructor for each body that the 59
cells share, with the decoder states and events that run it. -/
inductive UpdateEnds (pc pd c d : Level) (s : State) : State → Prop
  /-- LOW and HOLD, in every state. -/
  | still (hev : classify pc pd c d = .low ∨ classify pc pd c d = .hold) :
      UpdateEnds pc pd c d s (epilogue pc c d d s)
  /-- FALL outside the two transmitting states. -/
  | fallQuiet (hev : classify pc pd c d = .fall) (h₁ : s.decoderState ≠ .transmitStart)
      (h₂ : s.decoderState ≠ .transmit) : UpdateEnds pc pd c d s (epilogue pc c d d s)
  /-- FALL in the two transmitting states (R134, R138). -/
  | fallSending (hev : classify pc pd c d = .fall)
      (hst : s.decoderState = .transmitStart ∨ s.decoderState = .transmit) :
      UpdateEnds pc pd c d s (epilogue pc c d d (toAcknowledgeAtEight s))
  /-- A rising edge that is only echoed (R102, R148). -/
  | echo (hev : rise pc c = true)
      (hst : s.decoderState = .transmitWait ∨ s.decoderState = .idle ∧ (pd && !d) = false) :
      UpdateEnds pc pd c d s (epilogue pc c d d s)
  /-- START and LSTART in IDLE (R101). -/
  | opens (hev : idleStartCondition Config.switches pc pd c d = true) (hst : s.decoderState = .idle) :
      UpdateEnds pc pd c d s (epilogue pc c d d (openReception s))
  /-- A rising edge that samples a bit (R106, R107). -/
  | samples (hev : rise pc c = true) (hst : s.decoderState = .receive ∨ s.decoderState = .receiveWait)
      (hpos : s.bitPosition ≠ 8) : UpdateEnds pc pd c d s (epilogue pc c d d (byteBoundary (sampleBit d s)))
  /-- The acknowledge bit (R112). -/
  | acknowledges (hev : rise pc c = true) (hst : s.decoderState = .acknowledge) :
      UpdateEnds pc pd c d s (epilogue pc c d false (handOver s))
  /-- A rising edge that drives a bit and returns early (R89, R133). -/
  | drives (hev : rise pc c = true) (hst : s.decoderState = .transmitStart ∨ s.decoderState = .transmit)
      (hpos : s.bitPosition ≠ 8) : UpdateEnds pc pd c d s (earlyReturn c d (driveBit s))
  /-- The master's not-acknowledge (R140). -/
  | notAcknowledged (hev : classify pc pd c d = .rise1) (hst : s.decoderState = .transacknowledge) :
      UpdateEnds pc pd c d s (epilogue pc c d d (stopAction (raiseAnomaly .nakEnd s)))
  /-- The master's acknowledge (R141). -/
  | acknowledged (hev : classify pc pd c d = .rise0) (hst : s.decoderState = .transacknowledge) :
      UpdateEnds pc pd c d s (epilogue pc c d d { fetchNext s with decoderState := .transmitStart })
  /-- The repeated start (R105, R109). -/
  | restarts (hev : classify pc pd c d = .start)
      (hst : s.decoderState = .receive ∨ s.decoderState = .receiveWait) :
      UpdateEnds pc pd c d s (epilogue pc c d d (repeatedStart s))
  /-- A start in TRANSMIT_WAIT (R146). -/
  | refetches (hev : classify pc pd c d = .start) (hst : s.decoderState = .transmitWait) :
      UpdateEnds pc pd c d s (epilogue pc c d d (fetchNext s))
  /-- A stop acted on (R83). -/
  | stops (hev : classify pc pd c d = .stop) (hst : s.decoderState ≠ .idle) :
      UpdateEnds pc pd c d s (epilogue pc c d d (stopAction s))
  /-- A start or stop without an action in this state, recorded (R223). -/
  | ignores (hev : classify pc pd c d = .stop ∧ s.decoderState = .idle ∨
      classify pc pd c d = .start ∧ (s.decoderState = .acknowledge ∨ s.decoderState = .transmitStart ∨
        s.decoderState = .transmit ∨ s.decoderState = .transacknowledge)) :
      UpdateEnds pc pd c d s
        (epilogue pc c d d (raiseAnomaly (.ignoredTransition s.decoderState (classify pc pd c d)) s))

/-! ### The dispatch, one event at a time (R86, R92)

Each equation names the cell that runs, for the decoder states in which the event runs that cell. -/

section
variable {pd d : Level} {s : State}

theorem runUpdate_low : runUpdate false pd false d s = quietCell s.decoderState false pd false d s := by
  unfold runUpdate
  cases s.decoderState <;> rfl

theorem runUpdate_hold : runUpdate true d true d s = quietCell s.decoderState true d true d s := by
  unfold runUpdate
  cases s.decoderState <;> cases d <;> rfl

theorem runUpdate_fall_quiet (h₁ : s.decoderState ≠ .transmitStart) (h₂ : s.decoderState ≠ .transmit) :
    runUpdate true pd false d s = quietCell s.decoderState true pd false d s := by
  unfold runUpdate
  cases hst : s.decoderState
  case transmitStart => exact absurd hst h₁
  case transmit => exact absurd hst h₂
  all_goals rfl

theorem runUpdate_fall_sending (hst : s.decoderState = .transmitStart ∨ s.decoderState = .transmit) :
    runUpdate true pd false d s = fallCell s.decoderState pd d s := by
  rcases hst with hst | hst <;> simp only [runUpdate, hst] <;> rfl

theorem runUpdate_stop (hst : s.decoderState ≠ .idle) :
    runUpdate true false true true s = stopCell s.decoderState s := by
  unfold runUpdate
  cases h : s.decoderState
  case idle => exact absurd h hst
  all_goals rfl

theorem runUpdate_stop_idle (hst : s.decoderState = .idle) :
    runUpdate true false true true s = ignoredCell s.decoderState .stop false true s := by
  simp only [runUpdate, hst]
  rfl

theorem runUpdate_start_idle (hst : s.decoderState = .idle) :
    runUpdate true true true false s = execIdleStart s := by
  simp only [runUpdate, hst]
  rfl

theorem runUpdate_start_receiving (hst : s.decoderState = .receive ∨ s.decoderState = .receiveWait) :
    runUpdate true true true false s = repeatedStartCell s.decoderState s := by
  rcases hst with hst | hst <;> simp only [runUpdate, hst] <;> rfl

theorem runUpdate_start_transmitWait (hst : s.decoderState = .transmitWait) :
    runUpdate true true true false s = execTransmitWaitStart s := by
  simp only [runUpdate, hst]
  rfl

theorem runUpdate_start_ignored (hst : s.decoderState = .acknowledge ∨ s.decoderState = .transmitStart ∨
    s.decoderState = .transmit ∨ s.decoderState = .transacknowledge) :
    runUpdate true true true false s = ignoredCell s.decoderState .start true false s := by
  rcases hst with hst | hst | hst | hst <;> simp only [runUpdate, hst] <;> rfl

theorem runUpdate_lstart (hst : s.decoderState = .idle) : runUpdate false true true false s = execIdleLstart s := by
  simp only [runUpdate, hst]
  rfl

theorem runUpdate_rise_idle (hst : s.decoderState = .idle) (hstart : (pd && !d) = false) :
    runUpdate false pd true d s = quietCell s.decoderState false pd true d s := by
  simp only [runUpdate, hst]
  cases d
  case false =>
    obtain rfl : pd = false := by simpa using hstart
    rfl
  case true => rfl

theorem runUpdate_rise_receiving (hst : s.decoderState = .receive ∨ s.decoderState = .receiveWait) :
    runUpdate false pd true d s = sampleCell s.decoderState pd d s := by
  rcases hst with hst | hst <;> simp only [runUpdate, hst] <;> cases d <;> rfl

theorem runUpdate_rise_acknowledge (hst : s.decoderState = .acknowledge) :
    runUpdate false pd true d s = execAcknowledgeRise pd d s := by
  simp only [runUpdate, hst]
  cases d <;> rfl

theorem runUpdate_rise_sending (hst : s.decoderState = .transmitStart ∨ s.decoderState = .transmit) :
    runUpdate false pd true d s = driveCell s.decoderState pd d s := by
  rcases hst with hst | hst <;> simp only [runUpdate, hst] <;> cases d <;> rfl

theorem runUpdate_rise_transacknowledge (hst : s.decoderState = .transacknowledge) :
    runUpdate false pd true d s = if d then execTransacknowledgeRise1 pd s else execTransacknowledgeRise0 pd s := by
  simp only [runUpdate, hst]
  cases d <;> rfl

theorem runUpdate_rise_transmitWait (hst : s.decoderState = .transmitWait) :
    runUpdate false pd true d s = quietCell s.decoderState false pd true d s := by
  simp only [runUpdate, hst]
  cases d <;> rfl

end

/-! ### The inversion -/

/-- A cell that answers ends in what its action gives. -/
theorem eq_of_atCell_next {st : DecoderState} {pc pd : Level} {s t u : State}
    (h : atCell st pc pd s (.next u) = .next t) : u = t :=
  Host.Outcome.next.inj (atCell_next_iff.mp h).2

/-- A bit-counting cell that answers starts below eight bits. -/
theorem of_atCell_belowEight_next {st : DecoderState} {pc pd : Level} {s t u : State}
    (h : atCell st pc pd s (belowEight s (.next u)) = .next t) : s.bitPosition ≠ 8 ∧ u = t := by
  obtain ⟨hpos, h⟩ := belowEight_next_iff.mp (atCell_next_iff.mp h).2
  exact ⟨hpos, Host.Outcome.next.inj h⟩

section
variable {pd d : Level} {s t : State}

theorem runUpdate_low_ends (h : runUpdate false pd false d s = .next t) : UpdateEnds false pd false d s t := by
  obtain rfl := eq_of_atCell_next (runUpdate_low.symm.trans h)
  exact .still (.inl rfl)

theorem runUpdate_hold_ends (h : runUpdate true d true d s = .next t) : UpdateEnds true d true d s t := by
  obtain rfl := eq_of_atCell_next (runUpdate_hold.symm.trans h)
  exact .still (.inr (by cases d <;> rfl))

theorem runUpdate_fall_ends (h : runUpdate true pd false d s = .next t) : UpdateEnds true pd false d s t := by
  by_cases hst : s.decoderState = .transmitStart ∨ s.decoderState = .transmit
  · obtain rfl := eq_of_atCell_next ((runUpdate_fall_sending hst).symm.trans h)
    exact .fallSending rfl hst
  · obtain ⟨h₁, h₂⟩ := not_or.mp hst
    obtain rfl := eq_of_atCell_next ((runUpdate_fall_quiet h₁ h₂).symm.trans h)
    exact .fallQuiet rfl h₁ h₂

theorem runUpdate_stop_ends (h : runUpdate true false true true s = .next t) :
    UpdateEnds true false true true s t := by
  by_cases hst : s.decoderState = .idle
  · obtain rfl := eq_of_atCell_next ((runUpdate_stop_idle hst).symm.trans h)
    exact .ignores (.inl ⟨rfl, hst⟩)
  · obtain rfl := eq_of_atCell_next ((runUpdate_stop hst).symm.trans h)
    exact .stops rfl hst

theorem runUpdate_start_ends (h : runUpdate true true true false s = .next t) :
    UpdateEnds true true true false s t := by
  have ignored (hst : s.decoderState = .acknowledge ∨ s.decoderState = .transmitStart ∨
      s.decoderState = .transmit ∨ s.decoderState = .transacknowledge) : UpdateEnds true true true false s t := by
    obtain rfl := eq_of_atCell_next ((runUpdate_start_ignored hst).symm.trans h)
    exact .ignores (.inr ⟨rfl, hst⟩)
  have restarted (hst : s.decoderState = .receive ∨ s.decoderState = .receiveWait) :
      UpdateEnds true true true false s t := by
    obtain rfl := eq_of_atCell_next ((runUpdate_start_receiving hst).symm.trans h)
    exact .restarts rfl hst
  cases hst : s.decoderState with
  | idle =>
    obtain rfl := eq_of_atCell_next ((runUpdate_start_idle hst).symm.trans h)
    exact .opens rfl hst
  | receive => exact restarted (.inl hst)
  | receiveWait => exact restarted (.inr hst)
  | acknowledge | transmitStart | transmit | transacknowledge => exact ignored (by simp [hst])
  | transmitWait =>
    obtain rfl := eq_of_atCell_next ((runUpdate_start_transmitWait hst).symm.trans h)
    exact .refetches rfl hst

theorem runUpdate_rise_idle_ends (hst : s.decoderState = .idle) (h : runUpdate false pd true d s = .next t) :
    UpdateEnds false pd true d s t := by
  cases hstart : pd && !d with
  | true =>
    obtain ⟨rfl, rfl⟩ : pd = true ∧ d = false := by simpa using hstart
    obtain rfl := eq_of_atCell_next ((runUpdate_lstart hst).symm.trans h)
    exact .opens rfl hst
  | false =>
    obtain rfl := eq_of_atCell_next ((runUpdate_rise_idle hst hstart).symm.trans h)
    exact .echo rfl (.inr ⟨hst, hstart⟩)

theorem runUpdate_rise_transacknowledge_ends (hst : s.decoderState = .transacknowledge)
    (h : runUpdate false pd true d s = .next t) : UpdateEnds false pd true d s t := by
  have h := (runUpdate_rise_transacknowledge hst).symm.trans h
  cases d with
  | true =>
    obtain rfl := eq_of_atCell_next h
    exact .notAcknowledged rfl hst
  | false =>
    obtain rfl := eq_of_atCell_next h
    exact .acknowledged rfl hst

theorem runUpdate_rise_ends (h : runUpdate false pd true d s = .next t) : UpdateEnds false pd true d s t := by
  have sampled (hst : s.decoderState = .receive ∨ s.decoderState = .receiveWait) :
      UpdateEnds false pd true d s t := by
    obtain ⟨hpos, rfl⟩ := of_atCell_belowEight_next ((runUpdate_rise_receiving hst).symm.trans h)
    exact .samples rfl hst hpos
  have driven (hst : s.decoderState = .transmitStart ∨ s.decoderState = .transmit) :
      UpdateEnds false pd true d s t := by
    obtain ⟨hpos, rfl⟩ := of_atCell_belowEight_next ((runUpdate_rise_sending hst).symm.trans h)
    exact .drives rfl hst hpos
  cases hst : s.decoderState with
  | idle => exact runUpdate_rise_idle_ends hst h
  | receive => exact sampled (.inl hst)
  | receiveWait => exact sampled (.inr hst)
  | acknowledge =>
    obtain rfl := eq_of_atCell_next ((runUpdate_rise_acknowledge hst).symm.trans h)
    exact .acknowledges rfl hst
  | transmitStart => exact driven (.inl hst)
  | transmit => exact driven (.inr hst)
  | transacknowledge => exact runUpdate_rise_transacknowledge_ends hst h
  | transmitWait =>
    obtain rfl := eq_of_atCell_next ((runUpdate_rise_transmitWait hst).symm.trans h)
    exact .echo rfl (.inl hst)

end

theorem runUpdate_ends {pc pd c d : Level} {s t : State} (h : runUpdate pc pd c d s = .next t) :
    UpdateEnds pc pd c d s t := by
  match pc, c, pd, d with
  | false, false, _, _ => exact runUpdate_low_ends h
  | false, true, _, _ => exact runUpdate_rise_ends h
  | true, false, _, _ => exact runUpdate_fall_ends h
  | true, true, true, false => exact runUpdate_start_ends h
  | true, true, false, true => exact runUpdate_stop_ends h
  | true, true, false, false | true, true, true, true => exact runUpdate_hold_ends h

/-- What an answered `update` can do: the endpoint is live, and the call ends as one of the shared bodies does. -/
theorem update_ends {s t : State} {c d : Level} (h : exec (.update c d) s = .next t) :
    s.life = .live ∧ UpdateEnds s.clockLevel s.lastDataLevel c d s t := by
  obtain ⟨hlive, hrun⟩ := whenLive_next_iff.mp h
  exact ⟨hlive, runUpdate_ends hrun⟩

/-! ### The getters and END_TRANSACTION on a live endpoint (R175, R196, R197) -/

/-- On a live endpoint an operation is what `whenLive` guards. -/
theorem whenLive_live {s : State} (h : s.life = .live) (k : Result) : whenLive s k = k := by
  simp [whenLive, h]

theorem exec_getClockLevel_live {s : State} (h : s.life = .live) :
    exec .getClockLevel s = .next { s with reply := .level s.clockLevel } := whenLive_live h _

theorem exec_getDataLevel_live {s : State} (h : s.life = .live) :
    exec .getDataLevel s = .next { s with reply := .level s.dataLevel } := whenLive_live h _

theorem exec_endTransaction_live {s : State} (h : s.life = .live) :
    exec .endTransaction s = .next (returnNothing (endTransaction s)) := whenLive_live h _

/-! ### The line levels after an `update` (R11, R12) -/

/-- Only the two levels of a rising edge give a rising class (R61, R81). -/
theorem classify_of_rise {pc pd c d : Level} (h : rise pc c = true) :
    classify pc pd c d = if d then .rise1 else .rise0 := by
  obtain ⟨rfl, rfl⟩ : pc = false ∧ c = true := by simpa [rise] using h
  cases d <;> rfl

/-- An `update` never destroys the endpoint (R31). -/
theorem UpdateEnds.life_eq {pc pd c d : Level} {s t : State} (h : UpdateEnds pc pd c d s t) : t.life = s.life := by
  cases h <;> simp

theorem UpdateEnds.clockLevel_eq {pc pd c d : Level} {s t : State} (h : UpdateEnds pc pd c d s t) :
    t.clockLevel = c := by
  cases h <;> simp

theorem UpdateEnds.dataLevel_of_not_rise {pc pd c d : Level} {s t : State} (h : UpdateEnds pc pd c d s t)
    (hrise : rise pc c = false) : t.dataLevel = s.dataLevel := by
  cases h with
  | drives hev => cases hrise.symm.trans hev
  | _ => simp [hrise]

/-- What the data output is after a rising edge (R12 a to c). -/
def risenDataLevel (d : Level) (s : State) : Level :=
  match s.decoderState with
  | .transmitStart | .transmit => outgoingBit s.shiftByte
  | .acknowledge => false
  | _ => d

theorem risenDataLevel_sending {d : Level} {s : State}
    (hst : s.decoderState = .transmitStart ∨ s.decoderState = .transmit) :
    risenDataLevel d s = outgoingBit s.shiftByte := by
  rcases hst with hst | hst <;> simp [risenDataLevel, hst]

theorem risenDataLevel_acknowledge {d : Level} {s : State} (hst : s.decoderState = .acknowledge) :
    risenDataLevel d s = false := by
  simp [risenDataLevel, hst]

theorem UpdateEnds.dataLevel_of_rise {pc pd c d : Level} {s t : State} (h : UpdateEnds pc pd c d s t)
    (hrise : rise pc c = true) : t.dataLevel = risenDataLevel d s := by
  have hclass := classify_of_rise (pd := pd) (d := d) hrise
  cases h with
  | drives _ hst _ => simp [risenDataLevel_sending hst]
  | acknowledges _ hst => simp [risenDataLevel_acknowledge hst, hrise]
  | echo _ hst => rcases hst with hst | ⟨hst, -⟩ <;> simp [risenDataLevel, hst, hrise]
  | samples _ hst _ => rcases hst with hst | hst <;> simp [risenDataLevel, hst, hrise]
  | opens _ hst | notAcknowledged _ hst | acknowledged _ hst => simp [risenDataLevel, hst, hrise]
  | still hev | fallQuiet hev | fallSending hev | restarts hev | refetches hev | stops hev | ignores hev =>
    cases d <;> simp [hclass] at hev

/-! ### The obligations -/

/-- Settles O32: every end of an `update` has recorded `c`, on an endpoint that is still live for the getter. -/
theorem clockLevelIsTheLastCallsLevel : Obligations.ClockLevelIsTheLastCallsLevel := by
  refine ⟨rfl, fun s t c d h => ?_⟩
  obtain ⟨hlive, hends⟩ := update_ends h
  have hclock := hends.clockLevel_eq
  refine ⟨hclock, ?_⟩
  rw [exec_getClockLevel_live (hends.life_eq.trans hlive), hclock]

/-- Settles O33: without a rising edge every end of an `update` keeps the output, with one it is R12's level. -/
theorem dataLevelChangesOnlyOnARisingEdge : Obligations.DataLevelChangesOnlyOnARisingEdge := by
  refine ⟨fun s t c d h => ?_, fun s hlive => ⟨?_, ?_⟩⟩
  · obtain ⟨-, hends⟩ := update_ends h
    refine ⟨fun hrise => hends.dataLevel_of_not_rise (by simpa [rise] using hrise), fun hc hc' => ?_⟩
    exact hends.dataLevel_of_rise (by simp [rise, hc, hc'])
  · exact ⟨_, exec_endTransaction_live hlive, by simp⟩
  · exact exec_getDataLevel_live hlive

end Sys2Proof.Machine
end

section
/-! The address byte (R64): its value, its two fields, the order of its bits on the wire, and what an address byte that
names a present device leaves in the endpoint (R162 to R165). -/

namespace Sys2Proof

/-! ### The address byte and its fields -/

theorem addressByte_eq_concat (a : Addr) (r : Bool) : addressByte a r = a.concat r := rfl

theorem addressByte_toNat (a : Addr) (r : Bool) : (addressByte a r).toNat = 2 * a.toNat + r.toNat := by
  rw [addressByte_eq_concat, BitVec.toNat_concat, Nat.mul_comm]

/-- Bit 0 is the flag, and bit `i + 1` is `address[i]`. -/
theorem addressByte_getLsbD (a : Addr) (r : Bool) (i : Nat) :
    (addressByte a r).getLsbD i = if i = 0 then r else a.getLsbD (i - 1) := by
  rw [addressByte_eq_concat, BitVec.getLsbD_concat]

theorem addressOf_getLsbD {b : Byte} {i : Nat} (hi : i < 7) : (addressOf b).getLsbD i = b.getLsbD (i + 1) := by
  simp [addressOf, hi, Nat.add_comm]

@[simp] theorem readFlagOf_addressByte (a : Addr) (r : Bool) : readFlagOf (addressByte a r) = r :=
  addressByte_getLsbD a r 0

@[simp] theorem addressOf_addressByte (a : Addr) (r : Bool) : addressOf (addressByte a r) = a := by
  refine BitVec.eq_of_getLsbD_eq fun i hi => ?_
  rw [addressOf_getLsbD hi, addressByte_getLsbD]
  rfl

@[simp] theorem addressByte_addressOf_readFlagOf (b : Byte) : addressByte (addressOf b) (readFlagOf b) = b := by
  refine BitVec.eq_of_getLsbD_eq fun i hi => ?_
  rw [addressByte_getLsbD]
  cases i with
  | zero => rfl
  | succ i => exact addressOf_getLsbD (by omega)

end Sys2Proof

namespace Sys2Proof.Machine

/-! ### The address byte on the wire (R42, R73) -/

/-- The bits of a shifted register: the new level enters at bit 0, and old bit `i` moves to bit `i + 1`. -/
theorem shiftIn_getLsbD {v : Byte} {b : Level} {i : Nat} (hi : i < 8) :
    (shiftIn v b).getLsbD i = if i = 0 then b else v.getLsbD (i - 1) := by
  unfold shiftIn
  rw [BitVec.getLsbD_concat]
  split
  · rfl
  · have : i - 1 < 7 := by omega
    simp [this]

/-- A byte sent bit 7 first is received as itself. -/
theorem assembleByte_disassembleByte (b : Byte) : assembleByte (disassembleByte b) = b := by
  refine BitVec.eq_of_getLsbD_eq fun i hi => ?_
  unfold assembleByte disassembleByte
  interval_cases i <;> simp [shiftIn_getLsbD, -BitVec.getLsbD_eq_getElem]

/-- `address[6]` is sent first and the flag eighth. -/
theorem disassembleByte_addressByte (a : Addr) (r : Bool) : disassembleByte (addressByte a r) =
    [a.getLsbD 6, a.getLsbD 5, a.getLsbD 4, a.getLsbD 3, a.getLsbD 2, a.getLsbD 1, a.getLsbD 0, r] := by
  simp [disassembleByte, addressByte_getLsbD, -BitVec.getLsbD_eq_getElem]

/-! ### An address byte that names a present device (R161, R164, R165) -/

section
variable {a : Addr} {s : State}

theorem consumeAddress_currentAddress_of_has (h : s.registry.has a = true) (r : Bool) :
    (consumeAddress a r s).currentAddress = some a := by
  cases r <;> simp [consumeAddress, h]

theorem consumeAddress_direction_of_has (h : s.registry.has a = true) (r : Bool) :
    (consumeAddress a r s).direction = if r then .read else .write := by
  cases r <;> simp [consumeAddress, h]

end

theorem consumeByte_of_idle {s : State} (h : s.transferState = .idle) :
    consumeByte s = consumeAddress (addressOf s.shiftByte) (readFlagOf s.shiftByte) s := by
  simp [consumeByte, h]

theorem consumeByte_currentAddress_of_idle_of_has {s : State} (hidle : s.transferState = .idle)
    (hhas : s.registry.has (addressOf s.shiftByte) = true) :
    (consumeByte s).currentAddress = some (addressOf s.shiftByte) := by
  rw [consumeByte_of_idle hidle, consumeAddress_currentAddress_of_has hhas]

theorem consumeByte_direction_read_iff_of_idle_of_has {s : State} (hidle : s.transferState = .idle)
    (hhas : s.registry.has (addressOf s.shiftByte) = true) :
    (consumeByte s).direction = .read ↔ readFlagOf s.shiftByte = true := by
  rw [consumeByte_of_idle hidle, consumeAddress_direction_of_has hhas]
  cases readFlagOf s.shiftByte <;> simp

/-- Settles O7: the fields and the byte determine each other bit by bit, the wire carries the byte's own bits 7 to 0, and
in IDLE `consume_byte` decodes exactly these fields. -/
theorem addressByteIsAddressThenReadFlag : Obligations.AddressByteIsAddressThenReadFlag := by
  refine ⟨fun a r => ⟨addressByte_toNat a r, addressOf_addressByte a r, readFlagOf_addressByte a r⟩,
    fun b => ⟨addressByte_addressOf_readFlagOf b, rfl, rfl⟩, rfl, rfl, rfl, fun a r => ?_, fun s hidle hhas => ?_⟩
  · rw [← disassembleByte_addressByte, assembleByte_disassembleByte]
  · exact ⟨consumeByte_currentAddress_of_idle_of_has hidle hhas,
      consumeByte_direction_read_iff_of_idle_of_has hidle hhas⟩

end Sys2Proof.Machine
end

section
/-! The seven event classes by the four levels of a call (R81 to R84): the clock's move comes first, and the data level
decides only which bit a rising edge samples and what a clock that stays high carries. -/

namespace Sys2Proof.Machine

/-! ### The class, one move of the clock at a time -/

theorem classify_clockStaysLow (pd d : Level) : classify false pd false d = .low := rfl

theorem classify_clockFalls (pd d : Level) : classify true pd false d = .fall := rfl

/-- While the clock stays high the class says how the data moved (R82, R83, R84). -/
theorem classify_clockStaysHigh (pd d : Level) :
    classify true pd true d = if pd = d then .hold else if d then .stop else .start := by
  cases pd <;> cases d <;> rfl

/-- Settles O8: the clock's two levels choose the move; a rising edge is then split by `d`, and a clock that stays high
by the move of the data. -/
theorem clockEdgesIgnoreTheDataLevel : Obligations.ClockEdgesIgnoreTheDataLevel := by
  intro pc pd c d
  match pc, c with
  | false, false => simp [classify_clockStaysLow]
  | true, false => simp [classify_clockFalls]
  | false, true =>
    rw [classify_of_rise rfl]
    cases d <;> simp
  | true, true =>
    rw [classify_clockStaysHigh]
    cases pd <;> cases d <;> simp

end Sys2Proof.Machine
end

section
/-! What a selected cell of each shared body leaves, field by field (R83, R86 to R88, R112), and the receive side of the
Line Decoder: decoder IDLE, RECEIVE, RECEIVE_WAIT and ACKNOWLEDGE (R102 to R112). -/

namespace Sys2Proof.Machine

open Safety

/-! ### The epilogue (R88) -/

theorem epilogue_of_not_rise {pc c : Level} (h : rise pc c = false) (d out : Level) (s : State) :
    epilogue pc c d out s = recorded c d s := by
  simp [epilogue, recorded, h]

theorem epilogue_of_rise (d : Level) (s : State) : epilogue false true d d s = latched d s := rfl

/-! ### The epilogue and a consumed byte commute

The Transfer Controller neither reads nor writes the line levels or the reply, so a byte may be consumed before the
epilogue (R107) or after it. -/

section
variable (pc c d out : Level) (s : State)

theorem openTransaction_epilogue (a : Addr) :
    openTransaction a (epilogue pc c d out s) = epilogue pc c d out (openTransaction a s) := by
  simp only [openTransaction, epilogue_currentAddress]
  cases s.currentAddress <;> rfl

theorem consumeAddress_epilogue (a : Addr) (r : Bool) :
    consumeAddress a r (epilogue pc c d out s) = epilogue pc c d out (consumeAddress a r s) := by
  have hopen : openTransaction a (callHas a (epilogue pc c d out s)) =
      epilogue pc c d out (openTransaction a (callHas a s)) := openTransaction_epilogue pc c d out (callHas a s) a
  simp only [consumeAddress, epilogue_registry, hopen]
  cases s.registry.has a <;> cases r <;> rfl

theorem forwardByte_epilogue (b : Byte) :
    forwardByte b (epilogue pc c d out s) = epilogue pc c d out (forwardByte b s) := by
  simp only [forwardByte, epilogue_currentAddress]
  cases s.currentAddress <;> rfl

theorem consumeFirstData_epilogue (b : Byte) :
    consumeFirstData b (epilogue pc c d out s) = epilogue pc c d out (consumeFirstData b s) := by
  simp only [consumeFirstData, forwardByte_epilogue]
  rfl

theorem consumeByte_epilogue : consumeByte (epilogue pc c d out s) = epilogue pc c d out (consumeByte s) := by
  simp only [consumeByte, epilogue_transferState, epilogue_shiftByte]
  cases s.transferState with
  | idle => exact consumeAddress_epilogue ..
  | receiveAddress => exact consumeFirstData_epilogue ..
  | receiveData => exact forwardByte_epilogue ..
  | sendData | invalid => rfl

end

/-! ### The actions of the receive side -/

theorem epilogue_sampleBit (d : Level) (s : State) : epilogue false true d d (sampleBit d s) = sampled d s := rfl

theorem bitCount_add_one_eq_eight_iff (n : BitCount) : n + 1 = 8 ↔ n = 7 := by
  revert n
  decide

/-- The byte boundary is reached by the bit sampled at count 7, and by no other (R107). -/
theorem byteBoundary_sampleBit (d : Level) (s : State) : byteBoundary (sampleBit d s) =
    if s.bitPosition = 7 then { consumeByte (sampleBit d s) with decoderState := .acknowledge }
    else sampleBit d s := by
  simp only [byteBoundary, sampleBit_bitPosition, bitCount_add_one_eq_eight_iff]

/-- R112: `drive_role` chooses the state after the acknowledge. -/
@[simp] theorem handOver_decoderState (s : State) :
    (handOver s).decoderState = if s.driveRole = .txMaster then .receiveWait else .transmit := by
  cases h : s.driveRole <;> simp [handOver, h]

/-! ### A selected cell of each shared body -/

section
variable {st : DecoderState} {pc pd : Level} {s : State}

theorem belowEight_of_ne (h : s.bitPosition ≠ 8) (k : Result) : belowEight s k = k := if_neg h

/-- Without a rising edge a quiet cell only follows the inputs (R84, R88). -/
theorem quietCell_recorded {c : Level} (hsel : Selected st pc pd s) (hrise : rise pc c = false) (d : Level) :
    quietCell st pc pd c d s = .next (recorded c d s) := by
  rw [quietCell, atCell_selected hsel, epilogue_of_not_rise hrise]

/-- On a rising edge a quiet cell echoes the data level (R87, R88). -/
theorem quietCell_latched (hsel : Selected st false pd s) (d : Level) :
    quietCell st false pd true d s = .next (latched d s) := by
  rw [quietCell, atCell_selected hsel, epilogue_of_rise]

theorem ignoredCell_selected (hsel : Selected st true pd s) (cls : EventClass) (d : Level) :
    ignoredCell st cls pd d s = .next (ignored st cls d s) := by
  rw [ignoredCell, atCell_selected hsel, epilogue_of_not_rise rfl]
  rfl

theorem stopCell_selected (hsel : Selected st true false s) : stopCell st s = .next (stopped s) := by
  rw [stopCell, atCell_selected hsel, epilogue_of_not_rise rfl, stopAction_eq_ended]
  rfl

theorem repeatedStartCell_selected (hsel : Selected st true true s) :
    repeatedStartCell st s = .next (recorded true false (repeatedStart s)) := by
  rw [repeatedStartCell, atCell_selected hsel, epilogue_of_not_rise rfl]

theorem sampleCell_selected (hsel : Selected st false pd s) (hpos : s.bitPosition ≠ 8) (d : Level) :
    sampleCell st pd d s = .next (epilogue false true d d (byteBoundary (sampleBit d s))) := by
  rw [sampleCell, atCell_selected hsel, belowEight_of_ne hpos]

/-- Below bit 7 the rising edge samples and does nothing else (R106). -/
theorem sampleCell_of_lt_seven (hsel : Selected st false pd s) (hpos : s.bitPosition < 7) (d : Level) :
    sampleCell st pd d s = .next (sampled d s) := by
  rw [sampleCell_selected hsel (hpos.trans (by decide)).ne, byteBoundary_sampleBit, if_neg hpos.ne, epilogue_sampleBit]

/-- At bit 7 the sampled byte is consumed in the same call (R107). -/
theorem sampleCell_of_eq_seven (hsel : Selected st false pd s) (hpos : s.bitPosition = 7) (d : Level) :
    sampleCell st pd d s = .next { consumeByte (sampled d s) with decoderState := .acknowledge } := by
  rw [sampleCell_selected hsel (by rw [hpos]; decide), byteBoundary_sampleBit, if_pos hpos, ← epilogue_sampleBit,
    consumeByte_epilogue]
  rfl

end

theorem execAcknowledgeRise_selected {pd : Level} {s : State} (hsel : Selected .acknowledge false pd s) (d : Level) :
    execAcknowledgeRise pd d s = .next (epilogue false true d false (handOver s)) :=
  atCell_selected hsel _

/-! ### The obligations -/

/-- Settles O10: two of the seven cells are rising edges and echo, the stop is recorded, the other four are quiet. -/
theorem otherClassesInIdleOnlyRecord : Obligations.OtherClassesInIdleOnlyRecord := fun _ _ d =>
  ⟨(quietCell_latched · false), (quietCell_latched · true), (ignoredCell_selected · .stop true),
    (quietCell_recorded · rfl d), (quietCell_recorded · rfl d), (quietCell_recorded · rfl false),
    (quietCell_recorded · rfl true)⟩

/-- Settles O11: both states run one body, split at bit 7. -/
theorem risingEdgeSamplesABit : Obligations.RisingEdgeSamplesABit := fun _ _ d =>
  ⟨(sampleCell_of_lt_seven · · d), (sampleCell_of_eq_seven · · d), (sampleCell_of_lt_seven · · d),
    (sampleCell_of_eq_seven · · d)⟩

/-- Settles O12: the three states run one body. -/
theorem namedStopsEndTheTransaction : Obligations.NamedStopsEndTheTransaction := fun _ =>
  ⟨stopCell_selected, stopCell_selected, stopCell_selected⟩

/-- Settles O15: the repeated start changes its two fields and records the levels; the other four cells are quiet. -/
theorem repeatedStartAndQuietClassesInReceive : Obligations.RepeatedStartAndQuietClassesInReceive := fun _ _ d =>
  ⟨repeatedStartCell_selected, (quietCell_recorded · rfl d), (quietCell_recorded · rfl d),
    (quietCell_recorded · rfl false), (quietCell_recorded · rfl true)⟩

/-- Settles O16: the epilogue's latch value is 0 and not `d`, and `drive_role` is read in the entry state. -/
theorem acknowledgeDrivesLowAndHandsOver : Obligations.AcknowledgeDrivesLowAndHandsOver := by
  intro s pd d hsel
  rw [← handOver_decoderState]
  exact execAcknowledgeRise_selected hsel d

end Sys2Proof.Machine
end

section
/-! The transmit side of the Line Decoder: decoder TRANSMIT, TRANSACKNOWLEDGE and TRANSMIT_WAIT, their cells other than
the driven bit, the stop and the acknowledged byte (R134, R137, R140, R143, R146, R148). -/

namespace Sys2Proof.Machine

open Safety

/-! ### The fetch of a byte (R172) -/

theorem nextByte_of_some {a : Addr} {s : State} (h : s.currentAddress = some a) : nextByte s = fetched a s := by
  rw [nextByte, h]
  rfl

/-! ### A selected cell of each body of the transmit side -/

section
variable {st : DecoderState} {pd : Level} {s : State}

theorem fallCell_selected (hsel : Selected st true pd s) (d : Level) :
    fallCell st pd d s = .next (recorded false d (toAcknowledgeAtEight s)) := by
  rw [fallCell, atCell_selected hsel, epilogue_of_not_rise rfl]

/-- After the eighth bit the falling edge gives the acknowledge bit to the master (R134). -/
theorem fallCell_of_eq_eight (hsel : Selected st true pd s) (hpos : s.bitPosition = 8) (d : Level) :
    fallCell st pd d s = .next { recorded false d s with decoderState := .transacknowledge } := by
  rw [fallCell_selected hsel, toAcknowledgeAtEight, if_pos hpos]
  rfl

theorem fallCell_of_ne_eight (hsel : Selected st true pd s) (hpos : s.bitPosition ≠ 8) (d : Level) :
    fallCell st pd d s = .next (recorded false d s) := by
  rw [fallCell_selected hsel, toAcknowledgeAtEight, if_neg hpos]

/-- An ignored start or stop leaves only its record in the trace (R223). -/
theorem ignoredCell_recorded_but_trace (hsel : Selected st true pd s) (cls : EventClass) (d : Level) :
    ∃ t, ignoredCell st cls pd d s = .next t ∧ { t with trace := s.trace } = recorded true d s :=
  ⟨ignored st cls d s, ignoredCell_selected hsel cls d, rfl⟩

end

/-- R140: the not-acknowledge is recorded, and then acted on as a stop is. -/
theorem execTransacknowledgeRise1_selected {pd : Level} {s : State} (hsel : Selected .transacknowledge false pd s) :
    execTransacknowledgeRise1 pd s = .next (latched true (ended (raiseAnomaly .nakEnd s))) := by
  rw [execTransacknowledgeRise1, atCell_selected hsel, epilogue_of_rise, stopAction_eq_ended]

theorem execTransmitWaitStart_selected {s : State} (hsel : Selected .transmitWait true true s) :
    execTransmitWaitStart s = .next (recorded true false (fetchNext s)) := by
  rw [execTransmitWaitStart, atCell_selected hsel, epilogue_of_not_rise rfl]

/-- R146 with a transaction open: the start fetches the byte of its address. -/
theorem execTransmitWaitStart_of_some {a : Addr} {s : State} (hsel : Selected .transmitWait true true s)
    (ha : s.currentAddress = some a) :
    execTransmitWaitStart s = .next (recorded true false { fetched a s with bitPosition := 0 }) := by
  rw [execTransmitWaitStart_selected hsel, fetchNext, nextByte_of_some ha]

/-! ### The obligations -/

/-- Settles O20: the fall is split at bit 8, the start leaves only its record, the other three cells are quiet. -/
theorem fallAndQuietClassesInTransmit : Obligations.FallAndQuietClassesInTransmit := fun _ _ d =>
  ⟨(fallCell_of_eq_eight · · d), (fallCell_of_ne_eight · · d), (quietCell_recorded · rfl d),
    (quietCell_recorded · rfl false), (quietCell_recorded · rfl true),
    (ignoredCell_recorded_but_trace · .start false)⟩

/-- Settles O21: the not-acknowledge ends the transaction, the start leaves only its record, the other four cells are
quiet. -/
theorem notAcknowledgeAndQuietClassesInTransacknowledge :
    Obligations.NotAcknowledgeAndQuietClassesInTransacknowledge := fun _ _ d =>
  ⟨execTransacknowledgeRise1_selected, (quietCell_recorded · rfl d), (quietCell_recorded · rfl d),
    (quietCell_recorded · rfl false), (quietCell_recorded · rfl true),
    (ignoredCell_recorded_but_trace · .start false)⟩

/-- Settles O23: the start fetches, with or without a transaction open; a rising edge echoes, the other four cells are
quiet. -/
theorem startAndQuietClassesInTransmitWait : Obligations.StartAndQuietClassesInTransmitWait := fun _ _ d _ =>
  ⟨execTransmitWaitStart_selected, execTransmitWaitStart_of_some, (quietCell_latched · d),
    (quietCell_recorded · rfl d), (quietCell_recorded · rfl d), (quietCell_recorded · rfl false),
    (quietCell_recorded · rfl true)⟩

end Sys2Proof.Machine
end

section
/-! The Transfer Controller's byte (R68, R161, R166 to R168): the `CBYTE` word and the case it decodes to, each case as
the action `consume_byte` takes there, and the forwarded data byte. -/

namespace Sys2Proof

/-! ### The `CBYTE` word and its fields (R60, R68) -/

theorem cbyteWord_toNat (ts : TransferState) (b : Byte) :
    (cbyteWord ts b).toNat = 2 ^ 8 * ts.code.toNat + b.toNat := by
  have hcode : (ts.code.setWidth 16 <<< 8).toNat = 2 ^ 8 * ts.code.toNat := by
    cases ts <;> rfl
  rw [cbyteWord, BitVec.toNat_or, hcode, BitVec.toNat_setWidth_of_le (by decide), Nat.two_pow_add_eq_or_of_lt b.isLt]

theorem cbyteWord_lt (ts : TransferState) (b : Byte) : (cbyteWord ts b).toNat < 2 ^ 11 := by
  rw [cbyteWord_toNat]
  omega

@[simp] theorem cbyteWord_code (ts : TransferState) (b : Byte) : (cbyteWord ts b).extractLsb' 8 3 = ts.code := by
  refine BitVec.eq_of_toNat_eq ?_
  rw [BitVec.extractLsb'_toNat, cbyteWord_toNat, Nat.shiftRight_eq_div_pow]
  omega

@[simp] theorem cbyteWord_byte (ts : TransferState) (b : Byte) : (cbyteWord ts b).extractLsb' 0 8 = b := by
  refine BitVec.eq_of_toNat_eq ?_
  rw [BitVec.extractLsb'_toNat, cbyteWord_toNat, Nat.shiftRight_zero]
  omega

/-- The `CBYTE` case of a sub-state and a byte: the table of R68. -/
def cbyteCase : TransferState → Byte → Instr
  | .idle, b => if readFlagOf b then .consumeIdleRd (addressOf b) else .consumeIdleWr (addressOf b)
  | .receiveAddress, b => .consumeReceiveAddress b
  | .receiveData, b => .consumeReceiveData b
  | .sendData, b => .consumeSendData b
  | .invalid, b => .consumeInvalid b

theorem decodeCbyte_code (ts : TransferState) (b : Byte) : decodeCbyte ts.code.toNat b = .ok (cbyteCase ts b) := by
  cases ts <;> rfl

theorem decode_cbyteWord (ts : TransferState) (b : Byte) :
    decode { fmt := .cbyte, word := cbyteWord ts b, beside := .none } = .ok (cbyteCase ts b) := by
  have hfits : ({ fmt := .cbyte, word := cbyteWord ts b, beside := .none } : Call).fitsWidth = true :=
    decide_eq_true (cbyteWord_lt ts b)
  simp only [decode, hfits, if_true, cbyteWord_code, cbyteWord_byte, decodeCbyte_code, withNothingBeside]

end Sys2Proof

namespace Sys2Proof.Machine

open Safety

/-! ### A selected byte's case is the action of `consume_byte` (R161) -/

section
variable {ts : TransferState} {a : Addr} {b : Byte} {s : State}

theorem exec_consumeByte_of_live (h : s.life = .live) : exec .consumeByte s = .next (returnNothing (consumeByte s)) :=
  whenLive_next_iff.mpr ⟨h, rfl⟩

theorem exec_consumeIdle_selected (r : Bool) (hsel : ByteSelected .idle (addressByte a r) s) :
    exec (if r then .consumeIdleRd a else .consumeIdleWr a) s = .next (returnNothing (consumeAddress a r s)) := by
  cases r with
  | false => exact atByte_selected hsel _
  | true => exact atByte_selected hsel _

theorem exec_cbyteCase_selected (hsel : ByteSelected ts b s) :
    exec (cbyteCase ts b) s = .next (returnNothing (consumeByte s)) := by
  have ⟨_, hts, hb⟩ := hsel
  simp only [consumeByte, hts, hb]
  cases ts with
  | idle => exact exec_consumeIdle_selected _ (by rwa [addressByte_addressOf_readFlagOf])
  | receiveAddress | receiveData | sendData | invalid => exact atByte_selected hsel _

/-! ### The forwarded byte (R166, R167) -/

theorem forwardByte_of_some (h : s.currentAddress = some a) (b : Byte) : forwardByte b s = callWrite a b s := by
  rw [forwardByte, h]

theorem consumeFirstData_of_some (h : s.currentAddress = some a) (b : Byte) : consumeFirstData b s =
    { callWrite a b s with transferState := if s.direction = .read then .sendData else .receiveData } := by
  rw [consumeFirstData, forwardByte_of_some h]
  cases s.direction <;> rfl

end

/-! ### The obligations -/

/-- Settles O41: the word decodes to the case of its two fields, which the state selects. -/
theorem consumeByteSelectsByTheSubState : Obligations.ConsumeByteSelectsByTheSubState := fun s hlive =>
  ⟨cbyteCase s.transferState s.shiftByte, returnNothing (consumeByte s), decode_cbyteWord _ _,
    exec_consumeByte_of_live hlive, exec_cbyteCase_selected ⟨hlive, rfl, rfl⟩⟩

/-- Settles O45: both cases forward the byte to the current address; the first then moves the sub-state. -/
theorem dataBytesAreForwarded : Obligations.DataBytesAreForwarded := by
  refine fun s a b ha => ⟨fun hsel => (atByte_selected hsel _).trans ?_,
    fun hsel => (atByte_selected hsel _).trans ?_⟩
  · rw [consumeFirstData_of_some ha]
    rfl
  · rw [forwardByte_of_some ha]
    rfl

/-- Settles O47: the cases of SEND_DATA and INVALID have no action. -/
theorem bytesInSendDataAndInvalidAreDiscarded : Obligations.BytesInSendDataAndInvalidAreDiscarded := fun _ _ =>
  ⟨(atByte_selected · _), (atByte_selected · _)⟩

end Sys2Proof.Machine
end

section
/-! The decoder and the encoder are inverse to each other (30_encoding.md R60 to R69, R72 b). -/

namespace Sys2Proof

/-! ### The words of the formats `UPD` and `ADDR` -/

/-- A `UPD` word, formed from the state and the event, decodes to the cell of its five fields (R66). -/
theorem decode_updWord (st : DecoderState) (pc pd c d : Level) :
    decode (updCall (updWord st pc pd c d)) = .ok (decodeUpd st pc pd c d) := by
  cases st <;> cases pc <;> cases pd <;> cases c <;> cases d <;> rfl

/-- A cell's row is the word of the cell's fields (R66). -/
theorem encode_decodeUpd (st : DecoderState) (pc pd c d : Level) :
    encode (decodeUpd st pc pd c d) = updCall (updWord st pc pd c d) := by
  cases st <;> cases pc <;> cases pd <;> cases c <;> cases d <;> rfl

/-- A 7-bit word is the word of its own fields (R60, R62). -/
theorem updWord_of_fields {w : OpWord} (hw : w.toNat < 2 ^ 7) :
    updWord (decoderStateOf (w.extractLsb' 4 3)) (w.getLsbD 3) (w.getLsbD 2) (w.getLsbD 1) (w.getLsbD 0) = w := by
  have hall : ∀ v : BitVec 7, updWord (decoderStateOf ((v.setWidth 16).extractLsb' 4 3)) ((v.setWidth 16).getLsbD 3)
      ((v.setWidth 16).getLsbD 2) ((v.setWidth 16).getLsbD 1) ((v.setWidth 16).getLsbD 0) = v.setWidth 16 := by
    decide
  have hv : (w.setWidth 7).setWidth 16 = w := by
    refine BitVec.eq_of_toNat_eq ?_
    simp only [BitVec.toNat_setWidth]
    omega
  simpa only [hv] using hall (w.setWidth 7)

theorem extractLsb'_setWidth_byte (b : Byte) : (b.setWidth 16 : OpWord).extractLsb' 0 8 = b := by
  refine BitVec.eq_of_toNat_eq ?_
  rw [BitVec.extractLsb'_toNat, BitVec.toNat_setWidth, Nat.shiftRight_zero]
  omega

theorem setWidth_extractLsb'_of_lt {w : OpWord} (hw : w.toNat < 2 ^ 8) : (w.extractLsb' 0 8).setWidth 16 = w := by
  refine BitVec.eq_of_toNat_eq ?_
  rw [BitVec.toNat_setWidth, BitVec.extractLsb'_toNat, Nat.shiftRight_zero]
  omega

theorem decode_addrWord (b : Byte) :
    decode { fmt := .addr, word := b.setWidth 16, beside := .none } = .ok (decodeAddr b) := by
  have hfits : ({ fmt := .addr, word := b.setWidth 16, beside := .none } : Call).fitsWidth = true := by
    refine decide_eq_true ?_
    rw [BitVec.toNat_setWidth_of_le (by decide)]
    exact b.isLt
  simp only [decode, hfits, if_true, extractLsb'_setWidth_byte, withNothingBeside]

/-! ### What a decoded call is, one format at a time -/

section
variable {n : Nat} {w : OpWord} {operands : Beside} {i : Instr}

theorem withNothingBeside_ok_iff {r : Except DecodeError Instr} :
    withNothingBeside operands r = .ok i ↔ operands = .none ∧ r = .ok i := by
  cases operands <;> simp [withNothingBeside]

theorem encode_of_decodeHost (h : decodeHost n operands = .ok i) :
    encode i = { fmt := .host, word := BitVec.ofNat 16 n, beside := operands } := by
  unfold decodeHost at h
  split at h <;> cases h <;> rfl

theorem encode_of_decodeCtl (h : decodeCtl n = .ok i) :
    encode i = { fmt := .ctl, word := BitVec.ofNat 16 n, beside := .none } := by
  unfold decodeCtl at h
  split at h <;> cases h <;> rfl

theorem encode_of_decodeReg (h : decodeReg n operands = .ok i) :
    encode i = { fmt := .reg, word := BitVec.ofNat 16 n, beside := operands } := by
  unfold decodeReg at h
  split at h <;> cases h <;> rfl

theorem encode_cbyteCase (ts : TransferState) (b : Byte) :
    encode (cbyteCase ts b) = { fmt := .cbyte, word := cbyteWord ts b, beside := .none } := by
  cases ts with
  | idle =>
    have hbyte := addressByte_addressOf_readFlagOf b
    simp only [cbyteCase]
    split <;> rename_i hflag <;> simp only [hflag] at hbyte <;> simp only [encode, hbyte]
  | receiveAddress | receiveData | sendData | invalid => rfl

theorem encode_decodeAddr (b : Byte) :
    encode (decodeAddr b) = { fmt := .addr, word := b.setWidth 16, beside := .none } := by
  have hbyte := addressByte_addressOf_readFlagOf b
  unfold decodeAddr
  split <;> rename_i hflag <;> simp only [hflag] at hbyte <;> simp only [encode, hbyte]

/-- A `CBYTE` word is the word of its own fields (R60, R68). -/
theorem cbyteWord_of_fields {ts : TransferState} (hw : w.toNat < 2 ^ 11) (hts : w.extractLsb' 8 3 = ts.code) :
    cbyteWord ts (w.extractLsb' 0 8) = w := by
  refine BitVec.eq_of_toNat_eq ?_
  rw [cbyteWord_toNat, ← hts, BitVec.extractLsb'_toNat, BitVec.extractLsb'_toNat, Nat.shiftRight_zero,
    Nat.shiftRight_eq_div_pow]
  omega

theorem eq_cbyteCase_of_decodeCbyte {v : BitVec 3} {b : Byte} (h : decodeCbyte v.toNat b = .ok i) :
    ∃ ts : TransferState, v = ts.code ∧ i = cbyteCase ts b := by
  unfold decodeCbyte at h
  split at h <;> rename_i hcode <;> cases h
  · exact ⟨.idle, BitVec.eq_of_toNat_eq hcode, rfl⟩
  · exact ⟨.receiveAddress, BitVec.eq_of_toNat_eq hcode, rfl⟩
  · exact ⟨.receiveData, BitVec.eq_of_toNat_eq hcode, rfl⟩
  · exact ⟨.sendData, BitVec.eq_of_toNat_eq hcode, rfl⟩
  · exact ⟨.invalid, BitVec.eq_of_toNat_eq hcode, rfl⟩

theorem encode_of_decodeCbyte (hw : w.toNat < 2 ^ 11)
    (h : decodeCbyte (w.extractLsb' 8 3).toNat (w.extractLsb' 0 8) = .ok i) :
    encode i = { fmt := .cbyte, word := w, beside := .none } := by
  obtain ⟨ts, hts, rfl⟩ := eq_cbyteCase_of_decodeCbyte h
  rw [encode_cbyteCase, cbyteWord_of_fields hw hts]

end

/-! ### The two inverses -/

/-- A call has one meaning: it is the encoding of what it decodes to. -/
theorem encode_of_decode {k : Call} {i : Instr} (h : decode k = .ok i) : encode i = k := by
  obtain ⟨fmt, w, operands⟩ := k
  have hw : BitVec.ofNat 16 w.toNat = w := (BitVec.ofNat_toNat 16 w).trans (BitVec.setWidth_eq w)
  unfold decode at h
  split at h
  case isFalse => cases h
  case isTrue hfits =>
    have hfits := of_decide_eq_true hfits
    cases fmt <;> simp only [withNothingBeside_ok_iff, Except.ok.injEq] at h
    case upd =>
      obtain ⟨rfl, rfl⟩ := h
      rw [encode_decodeUpd, updWord_of_fields hfits]
      rfl
    case host => exact hw ▸ encode_of_decodeHost h
    case ctl =>
      obtain ⟨rfl, h⟩ := h
      exact hw ▸ encode_of_decodeCtl h
    case cbyte =>
      obtain ⟨rfl, h⟩ := h
      exact encode_of_decodeCbyte hfits h
    case reg => exact hw ▸ encode_of_decodeReg h
    case addr =>
      obtain ⟨rfl, rfl⟩ := h
      rw [encode_decodeAddr, setWidth_extractLsb'_of_lt hfits]

/-- Every operation decodes back from its own call. -/
theorem decode_encode (i : Instr) : decode (encode i) = .ok i := by
  cases i with
  | idleRise1 pd | transacknowledgeRise1 pd | transacknowledgeRise0 pd => cases pd <;> rfl
  | update u v | idleFall u v | idleLow u v | receiveRise u v | receiveFall u v | receiveLow u v | receiveWaitRise u v
  | receiveWaitFall u v | receiveWaitLow u v | acknowledgeRise u v | acknowledgeFall u v | acknowledgeLow u v
  | transmitStartRise u v | transmitStartFall u v | transmitStartLow u v | transmitRise u v | transmitFall u v
  | transmitLow u v | transacknowledgeFall u v | transacknowledgeLow u v | transmitWaitRise u v
  | transmitWaitFall u v | transmitWaitLow u v => cases u <;> cases v <;> rfl
  | consumeIdleWr a | consumeIdleRd a => exact (decode_cbyteWord .idle _).trans (by simp [cbyteCase])
  | consumeReceiveAddress b | consumeReceiveData b | consumeSendData b | consumeInvalid b =>
    exact decode_cbyteWord _ b
  | addrWrite a | addrRead a => exact (decode_addrWord _).trans (by simp [decodeAddr])
  | _ => rfl

theorem exists_decode_of_wellFormed {k : Call} (h : k.wellFormed = true) : ∃ i, decode k = .ok i := by
  obtain ⟨fmt, w, operands⟩ := k
  simp only [Call.wellFormed, Bool.and_eq_true] at h
  obtain ⟨⟨hfits, hcode⟩, hbeside⟩ := h
  simp only [decode, hfits, if_true]
  simp only [Call.fitsWidth, Call.codeAssigned, Call.besideFits, decide_eq_true_eq] at hfits hcode hbeside
  cases fmt <;> dsimp only at hcode hbeside ⊢
  case upd | addr =>
    cases operands <;> simp [withNothingBeside] at hbeside ⊢
  case host =>
    generalize w.toNat = n at hcode hbeside
    simp only [List.contains_eq_mem, List.mem_cons, List.not_mem_nil, or_false, decide_eq_true_eq] at hcode
    rcases hcode with rfl | rfl | rfl | rfl | rfl | rfl | rfl | rfl | rfl <;>
      cases operands <;> simp [decodeHost] at hbeside ⊢
  case ctl =>
    have hcode := of_decide_eq_true hcode
    generalize w.toNat = n at hcode hbeside
    interval_cases n <;> cases operands <;> simp [withNothingBeside, decodeCtl] at hbeside ⊢
  case cbyte =>
    have hcode := of_decide_eq_true hcode
    have hts : (w.extractLsb' 8 3).toNat < 5 := by
      rw [BitVec.extractLsb'_toNat, Nat.shiftRight_eq_div_pow]
      omega
    generalize (w.extractLsb' 8 3).toNat = n at hts
    interval_cases n <;> cases operands <;> simp [withNothingBeside, decodeCbyte] at hbeside ⊢
  case reg =>
    have hcode := of_decide_eq_true hcode
    generalize w.toNat = n at hcode hbeside
    interval_cases n <;> cases operands <;> simp [decodeReg] at hbeside ⊢

open Laws.EncodeWellFormed in
/-- The law of each operation, for all of them. -/
theorem encode_wellFormed (i : Instr) : (encode i).wellFormed = true := by
  change Laws.EncodeWellFormed.Statement i
  cases i
  exacts [
    idleStart, idleLstart, idleRise0, idleRise1 _, idleStop, idleFall _ _, idleLow _ _, idleHold0, idleHold1,
    receiveRise _ _, receiveStop, receiveStart, receiveFall _ _, receiveLow _ _, receiveHold0, receiveHold1,
    receiveWaitRise _ _, receiveWaitStop, receiveWaitStart, receiveWaitFall _ _, receiveWaitLow _ _,
    receiveWaitHold0, receiveWaitHold1, acknowledgeRise _ _, acknowledgeStop, acknowledgeStart, acknowledgeFall _ _,
    acknowledgeLow _ _, acknowledgeHold0, acknowledgeHold1, transmitStartRise _ _, transmitStartStop,
    transmitStartStart, transmitStartFall _ _, transmitStartLow _ _, transmitStartHold0, transmitStartHold1,
    transmitRise _ _, transmitFall _ _, transmitStop, transmitStart, transmitLow _ _, transmitHold0, transmitHold1,
    transacknowledgeRise1 _, transacknowledgeRise0 _, transacknowledgeStop, transacknowledgeStart,
    transacknowledgeFall _ _, transacknowledgeLow _ _, transacknowledgeHold0, transacknowledgeHold1,
    transmitWaitStart, transmitWaitStop, transmitWaitRise _ _, transmitWaitFall _ _, transmitWaitLow _ _,
    transmitWaitHold0, transmitWaitHold1, create _ _, destroy, update _ _, getClockLevel, getDataLevel,
    getRegistryHandle, consumeByte, nextByte, endTransaction, consumeIdleWr _, consumeIdleRd _,
    consumeReceiveAddress _, consumeReceiveData _, consumeSendData _, consumeInvalid _, hasDevice _,
    transactionStart _, transactionEnd _, readByte _, writeByte _ _, addrWrite _, addrRead _]

/-! ### The obligations -/

/-- Settles O5: the call of each row, with each value of its letters, decodes to the row. -/
theorem decodeOfEncodeIsTheOperation : Obligations.DecodeOfEncodeIsTheOperation := decode_encode

/-- Settles O6: a call that decodes is the call of a row, and these are well formed; a well-formed call reaches an
accepting arm of its format's decoder. -/
theorem acceptedCallsAreTheEncodings : Obligations.AcceptedCallsAreTheEncodings := by
  refine fun k => ⟨⟨?_, exists_decode_of_wellFormed⟩, fun _ => encode_of_decode⟩
  rintro ⟨i, h⟩
  rw [← encode_of_decode h]
  exact encode_wellFormed i

end Sys2Proof
end

section
/-! When an `update` answers (R72 c, R236, D32), what it answers without an edge and on a stop (R83, R90), and its
agreement with the consolidated pseudocode (R91). -/

namespace Sys2Proof.Machine

open Safety

/-! ### A rising edge at a full bit count (R72 c, D32) -/

section
variable {st : DecoderState} {pd : Level} {s : State}

theorem belowEight_of_eq (h : s.bitPosition = 8) (k : Result) : belowEight s k = .refused .riseAtByteBoundary :=
  if_pos h

theorem sampleCell_of_eq_eight (hsel : Selected st false pd s) (hpos : s.bitPosition = 8) (d : Level) :
    sampleCell st pd d s = .refused .riseAtByteBoundary := by
  rw [sampleCell, atCell_selected hsel, belowEight_of_eq hpos]

theorem driveCell_of_eq_eight (hsel : Selected st false pd s) (hpos : s.bitPosition = 8) (d : Level) :
    driveCell st pd d s = .refused .riseAtByteBoundary := by
  rw [driveCell, atCell_selected hsel, belowEight_of_eq hpos]

/-- Below bit 8 a rising edge drives bit 7 and returns early (R89, R133). -/
theorem driveCell_selected (hsel : Selected st false pd s) (hpos : s.bitPosition ≠ 8) (d : Level) :
    driveCell st pd d s = .next (driven d s) := by
  rw [driveCell, atCell_selected hsel, belowEight_of_ne hpos]
  rfl

end

/-- A rising edge with the bit count at 8 in a state that counts bits: the one event without a meaning (R72 c). -/
def AtByteBoundary (pc c : Level) (s : State) : Prop :=
  pc = false ∧ c = true ∧ s.bitPosition = 8 ∧
    (s.decoderState = .receive ∨ s.decoderState = .receiveWait ∨ s.decoderState = .transmitStart ∨
      s.decoderState = .transmit)

/-! ### The dispatch of a live endpoint, one event at a time -/

section
variable {pc pd c d : Level} {s : State}

/-- On a live endpoint `update` runs on the entry levels, which select every cell of the decoder state. -/
theorem selected_of_live (hlive : s.life = .live) :
    Selected s.decoderState s.clockLevel s.lastDataLevel s := ⟨hlive, rfl, rfl, rfl⟩

theorem exec_update_of_live (hlive : s.life = .live) :
    exec (.update c d) s = runUpdate s.clockLevel s.lastDataLevel c d s := whenLive_live hlive _

theorem runUpdate_of_atByteBoundary (hsel : Selected s.decoderState pc pd s) (h : AtByteBoundary pc c s) :
    runUpdate pc pd c d s = .refused .riseAtByteBoundary := by
  obtain ⟨rfl, rfl, hpos, hst⟩ := h
  rcases or_assoc.mpr hst with hst | hst
  · rw [runUpdate_rise_receiving hst, sampleCell_of_eq_eight hsel hpos]
  · rw [runUpdate_rise_sending hst, driveCell_of_eq_eight hsel hpos]

theorem runUpdate_fall_completes (hsel : Selected s.decoderState true pd s) :
    ∃ t, runUpdate true pd false d s = .next t := by
  by_cases hst : s.decoderState = .transmitStart ∨ s.decoderState = .transmit
  · exact ⟨_, (runUpdate_fall_sending hst).trans (fallCell_selected hsel d)⟩
  · obtain ⟨h₁, h₂⟩ := not_or.mp hst
    exact ⟨_, (runUpdate_fall_quiet h₁ h₂).trans (quietCell_recorded hsel rfl d)⟩

theorem runUpdate_stop_completes (hsel : Selected s.decoderState true false s) :
    ∃ t, runUpdate true false true true s = .next t := by
  by_cases hst : s.decoderState = .idle
  · exact ⟨_, (runUpdate_stop_idle hst).trans (ignoredCell_selected hsel _ _)⟩
  · exact ⟨_, (runUpdate_stop hst).trans (stopCell_selected hsel)⟩

theorem runUpdate_start_completes (hsel : Selected s.decoderState true true s) :
    ∃ t, runUpdate true true true false s = .next t := by
  cases hst : s.decoderState with
  | idle => exact ⟨_, (runUpdate_start_idle hst).trans (atCell_selected (hst ▸ hsel) _)⟩
  | receive | receiveWait =>
    exact ⟨_, (runUpdate_start_receiving (by simp [hst])).trans (repeatedStartCell_selected hsel)⟩
  | acknowledge | transmitStart | transmit | transacknowledge =>
    exact ⟨_, (runUpdate_start_ignored (by simp [hst])).trans (ignoredCell_selected hsel _ _)⟩
  | transmitWait =>
    exact ⟨_, (runUpdate_start_transmitWait hst).trans (execTransmitWaitStart_selected (hst ▸ hsel))⟩

theorem runUpdate_rise_completes (hsel : Selected s.decoderState false pd s) (h : ¬ AtByteBoundary false true s) :
    ∃ t, runUpdate false pd true d s = .next t := by
  have hpos (hst : (s.decoderState = .receive ∨ s.decoderState = .receiveWait) ∨ s.decoderState = .transmitStart ∨
      s.decoderState = .transmit) : s.bitPosition ≠ 8 := fun hpos => h ⟨rfl, rfl, hpos, or_assoc.mp hst⟩
  cases hst : s.decoderState with
  | idle =>
    cases hstart : pd && !d with
    | true =>
      obtain ⟨rfl, rfl⟩ : pd = true ∧ d = false := by simpa using hstart
      exact ⟨_, (runUpdate_lstart hst).trans (atCell_selected (hst ▸ hsel) _)⟩
    | false => exact ⟨_, (runUpdate_rise_idle hst hstart).trans (quietCell_latched hsel d)⟩
  | receive | receiveWait =>
    exact ⟨_, (runUpdate_rise_receiving (by simp [hst])).trans (sampleCell_selected hsel (hpos (by simp [hst])) d)⟩
  | acknowledge => exact ⟨_, (runUpdate_rise_acknowledge hst).trans (execAcknowledgeRise_selected (hst ▸ hsel) d)⟩
  | transmitStart | transmit =>
    exact ⟨_, (runUpdate_rise_sending (by simp [hst])).trans (driveCell_selected hsel (hpos (by simp [hst])) d)⟩
  | transacknowledge =>
    rw [runUpdate_rise_transacknowledge hst]
    cases d with
    | true => exact ⟨_, execTransacknowledgeRise1_selected (hst ▸ hsel)⟩
    | false => exact ⟨_, atCell_selected (hst ▸ hsel) _⟩
  | transmitWait => exact ⟨_, (runUpdate_rise_transmitWait hst).trans (quietCell_latched hsel d)⟩

/-- Every other event has a cell that answers. -/
theorem runUpdate_completes (hsel : Selected s.decoderState pc pd s) (h : ¬ AtByteBoundary pc c s) :
    ∃ t, runUpdate pc pd c d s = .next t := by
  match pc, c, pd, d with
  | false, false, _, _ => exact ⟨_, runUpdate_low.trans (quietCell_recorded hsel rfl _)⟩
  | false, true, _, _ => exact runUpdate_rise_completes hsel h
  | true, false, _, _ => exact runUpdate_fall_completes hsel
  | true, true, true, false => exact runUpdate_start_completes hsel
  | true, true, false, true => exact runUpdate_stop_completes hsel
  | true, true, false, false | true, true, true, true =>
    exact ⟨_, runUpdate_hold.trans (quietCell_recorded hsel rfl _)⟩

theorem update_completes (hlive : s.life = .live) (h : ¬ AtByteBoundary s.clockLevel c s) :
    ∃ t, exec (.update c d) s = .next t := by
  rw [exec_update_of_live hlive]
  exact runUpdate_completes (selected_of_live hlive) h

/-- Where neither line level moves, the cell is a quiet one (R90). -/
theorem runUpdate_same_levels (hsel : Selected s.decoderState pc pd s) :
    runUpdate pc pd pc pd s = .next (recorded pc pd s) := by
  cases pc with
  | false => rw [runUpdate_low, quietCell_recorded hsel rfl]
  | true => rw [runUpdate_hold, quietCell_recorded hsel rfl]

end

/-! ### The levels of an event -/

section
variable {pc pd c d : Level}

theorem levels_of_rise (h : rise pc c = true) : pc = false ∧ c = true := by
  simpa [rise] using h

theorem levels_of_rise0 (h : classify pc pd c d = .rise0) : pc = false ∧ c = true ∧ d = false :=
  (clockEdgesIgnoreTheDataLevel pc pd c d).1.mp h

theorem levels_of_rise1 (h : classify pc pd c d = .rise1) : pc = false ∧ c = true ∧ d = true :=
  (clockEdgesIgnoreTheDataLevel pc pd c d).2.1.mp h

theorem levels_of_fall (h : classify pc pd c d = .fall) : pc = true ∧ c = false :=
  (clockEdgesIgnoreTheDataLevel pc pd c d).2.2.1.mp h

theorem levels_of_low (h : classify pc pd c d = .low) : pc = false ∧ c = false :=
  (clockEdgesIgnoreTheDataLevel pc pd c d).2.2.2.1.mp h

theorem levels_of_start (h : classify pc pd c d = .start) : pc = true ∧ c = true ∧ pd = true ∧ d = false :=
  (clockEdgesIgnoreTheDataLevel pc pd c d).2.2.2.2.1.mp h

theorem levels_of_stop (h : classify pc pd c d = .stop) : pc = true ∧ c = true ∧ pd = false ∧ d = true :=
  (clockEdgesIgnoreTheDataLevel pc pd c d).2.2.2.2.2.1.mp h

theorem levels_of_hold (h : classify pc pd c d = .hold) : pc = true ∧ c = true ∧ pd = d :=
  (clockEdgesIgnoreTheDataLevel pc pd c d).2.2.2.2.2.2.mp h

theorem levels_of_idleStart (h : idleStartCondition Config.switches pc pd c d = true) :
    c = true ∧ pd = true ∧ d = false := by
  simpa [idleStartCondition, Config.switches, and_assoc] using h

end

/-! ### The pseudocode (R91) -/

section
variable {c d : Level} {s t : State}

/-- The end of each shared body is what the pseudocode computes at that event. -/
theorem UpdateEnds.updatePseudocode_eq (h : UpdateEnds s.clockLevel s.lastDataLevel c d s t) :
    updatePseudocode c d s = .next t := by
  cases h with
  | still hev =>
    rcases hev with hev | hev
    · obtain ⟨hpc, rfl⟩ := levels_of_low hev
      cases hst : s.decoderState <;> simp [updatePseudocode, epilogue, rise, hpc, hst]
    · obtain ⟨hpc, rfl, hpd⟩ := levels_of_hold hev
      cases hst : s.decoderState <;> simp [updatePseudocode, epilogue, rise, hpc, hpd, hst]
  | fallQuiet hev h₁ h₂ =>
    obtain ⟨hpc, rfl⟩ := levels_of_fall hev
    cases hst : s.decoderState <;> simp [updatePseudocode, epilogue, rise, hpc, hst] at h₁ h₂ ⊢
  | fallSending hev hst =>
    obtain ⟨hpc, rfl⟩ := levels_of_fall hev
    by_cases h8 : s.bitPosition = 8 <;> rcases hst with hst | hst <;>
      simp [updatePseudocode, epilogue, rise, toAcknowledgeAtEight, hpc, hst, h8]
  | echo hev hst =>
    obtain ⟨hpc, rfl⟩ := levels_of_rise hev
    rcases hst with hst | ⟨hst, hstart⟩
    · simp [updatePseudocode, epilogue, rise, hpc, hst]
    · cases hpd : s.lastDataLevel <;> cases d <;> simp [updatePseudocode, epilogue, rise, hpc, hst, hpd] at hstart ⊢
  | opens hev hst =>
    obtain ⟨rfl, hpd, rfl⟩ := levels_of_idleStart hev
    simp [updatePseudocode, epilogue, rise, openReception, hpd, hst]
  | samples hev hst hpos =>
    obtain ⟨hpc, rfl⟩ := levels_of_rise hev
    by_cases h8 : s.bitPosition + 1 = 8 <;> rcases hst with hst | hst <;>
      simp [updatePseudocode, epilogue, rise, byteBoundary, sampleBit, shiftIn, hpc, hst, hpos, h8]
  | acknowledges hev hst =>
    obtain ⟨hpc, rfl⟩ := levels_of_rise hev
    simp only [updatePseudocode, hst, hpc, ← handOver_decoderState]
    rfl
  | drives hev hst hpos =>
    obtain ⟨hpc, rfl⟩ := levels_of_rise hev
    rcases hst with hst | hst <;>
      simp [updatePseudocode, earlyReturn, driveBit, outgoingBit, shiftIn, hpc, hst, hpos]
  | notAcknowledged hev hst =>
    obtain ⟨hpc, rfl, rfl⟩ := levels_of_rise1 hev
    simp [updatePseudocode, epilogue, rise, stopAction, raiseAnomaly, hpc, hst]
  | acknowledged hev hst =>
    obtain ⟨hpc, rfl, rfl⟩ := levels_of_rise0 hev
    simp [updatePseudocode, epilogue, rise, fetchNext, hpc, hst]
  | restarts hev hst =>
    obtain ⟨hpc, rfl, hpd, rfl⟩ := levels_of_start hev
    rcases hst with hst | hst <;> simp [updatePseudocode, epilogue, rise, repeatedStart, hpc, hpd, hst]
  | refetches hev hst =>
    obtain ⟨hpc, rfl, hpd, rfl⟩ := levels_of_start hev
    simp [updatePseudocode, epilogue, rise, fetchNext, hpc, hpd, hst]
  | stops hev hst =>
    obtain ⟨hpc, rfl, hpd, rfl⟩ := levels_of_stop hev
    cases h : s.decoderState <;> simp [updatePseudocode, epilogue, rise, stopAction, hpc, hpd, h] at hst ⊢
  | ignores hev =>
    rcases hev with ⟨hev, hst⟩ | ⟨hev, hst⟩ <;> rw [hev]
    · obtain ⟨hpc, rfl, hpd, rfl⟩ := levels_of_stop hev
      simp [updatePseudocode, epilogue, rise, raiseAnomaly, hpc, hpd, hst]
    · obtain ⟨hpc, rfl, hpd, rfl⟩ := levels_of_start hev
      rcases hst with hst | hst | hst | hst <;>
        simp [updatePseudocode, epilogue, rise, raiseAnomaly, hpc, hpd, hst]

theorem updatePseudocode_of_atByteBoundary (h : AtByteBoundary s.clockLevel c s) :
    updatePseudocode c d s = .refused .riseAtByteBoundary := by
  obtain ⟨hpc, rfl, hpos, hst⟩ := h
  rcases hst with hst | hst | hst | hst <;> simp [updatePseudocode, hpc, hpos, hst]

end

/-! ### The obligations -/

/-- Settles O24: the four cells run two bodies, both behind the same test. -/
theorem riseAtEightIsRefused : Obligations.RiseAtEightIsRefused := fun _ _ d hpos =>
  ⟨(sampleCell_of_eq_eight · hpos d), (sampleCell_of_eq_eight · hpos d), (driveCell_of_eq_eight · hpos d),
    (driveCell_of_eq_eight · hpos d)⟩

/-- Settles O28: where the event has a meaning the call ends in one of the shared bodies, and where it has none both
refuse. -/
theorem updateIsTheConsolidatedPseudocode : Obligations.UpdateIsTheConsolidatedPseudocode := by
  intro s c d hlive
  by_cases hb : AtByteBoundary s.clockLevel c s
  · rw [exec_update_of_live hlive, runUpdate_of_atByteBoundary (selected_of_live hlive) hb,
      updatePseudocode_of_atByteBoundary hb]
  · obtain ⟨t, ht⟩ := update_completes (d := d) hlive hb
    rw [ht, (update_ends ht).2.updatePseudocode_eq]

/-- Settles O29: every event but the excluded one runs a cell that answers. -/
theorem updateCompletesBelowEight : Obligations.UpdateCompletesBelowEight := fun _ _ _ => update_completes

/-- Settles O30: with both levels as stored the event is LOW or HOLD, and its cell records them again. -/
theorem noEdgeUpdateChangesNothing : Obligations.NoEdgeUpdateChangesNothing := fun _ hlive =>
  (exec_update_of_live hlive).trans (runUpdate_same_levels (selected_of_live hlive))

/-- Settles O31: outside IDLE every stop cell runs the one stop body. -/
theorem stopAlwaysTerminates : Obligations.StopAlwaysTerminates := by
  intro s hlive hst hclock hdata
  have hsel := selected_of_live hlive
  rw [hclock, hdata] at hsel
  rw [exec_update_of_live hlive, hclock, hdata, runUpdate_stop hst, stopCell_selected hsel]

end Sys2Proof.Machine
end

section
/-! How an operation comes to run: a step runs the decoded call (R80, R225), a cell or a byte's case runs where the
state selects it (R64, R66, R68), and nothing but CREATE runs on a destroyed endpoint (R192). -/

namespace Sys2Proof.Machine

open Safety

/-! ### A step -/

theorem step_of_decode {s : State} {k : Call} {rest : List Call} {i : Instr} (hp : s.pending = k :: rest)
    (hk : decode k = .ok i) : step s = exec i { s with pending := rest } := by
  simp [step, takeCall, hp, hk]

theorem step_of_decode_error {s : State} {k : Call} {rest : List Call} {e : DecodeError} (hp : s.pending = k :: rest)
    (hk : decode k = .error e) : step s = .refused (.undecodable e) := by
  simp [step, takeCall, hp, hk]

theorem step_of_pending_nil {s : State} (hp : s.pending = []) : step s = .next s := by
  simp [step, takeCall, hp]

/-- What an answered step did: nothing, or the operation whose call was first. -/
theorem step_next_cases {s t : State} (h : step s = .next t) :
    t = s ∨ ∃ (i : Instr) (rest : List Call), s.pending = encode i :: rest ∧
      exec i { s with pending := rest } = .next t := by
  cases hp : s.pending with
  | nil =>
    rw [step_of_pending_nil hp] at h
    exact .inl (Host.Outcome.next.inj h).symm
  | cons k rest =>
    cases hk : decode k with
    | error e =>
      rw [step_of_decode_error hp hk] at h
      cases h
    | ok i =>
      rw [step_of_decode hp hk] at h
      exact .inr ⟨i, rest, by rw [encode_of_decode hk], h⟩

theorem encode_fmt (i : Instr) : (encode i).fmt = i.format := by
  cases i <;> rfl

/-! ### The `UPD` cells -/

/-- Every cell is guarded by the fields of its word (R66). -/
theorem exec_decodeUpd_eq_atCell (st : DecoderState) (pc pd c d : Level) (s : State) :
    ∃ k, exec (decodeUpd st pc pd c d) s = atCell st pc pd s k := by
  cases st <;> cases pc <;> cases pd <;> cases c <;> cases d <;> exact ⟨_, rfl⟩

/-- Every operation of format `UPD` is the cell of some word (R66). -/
theorem exists_decodeUpd_of_format {i : Instr} (h : i.format = .upd) :
    ∃ st pc pd c d, i = decodeUpd st pc pd c d := by
  have hdec := decode_encode i
  have hfmt := (encode_fmt i).trans h
  unfold decode at hdec
  split at hdec
  · simp only [hfmt, withNothingBeside_ok_iff, Except.ok.injEq] at hdec
    exact ⟨_, _, _, _, _, hdec.2.symm⟩
  · cases hdec

theorem runUpdate_eq_cell (pc pd c d : Level) (s : State) :
    runUpdate pc pd c d s = exec (decodeUpd s.decoderState pc pd c d) s := by
  unfold runUpdate
  cases s.decoderState with
  | idle => exact updateIdle_eq_cell ..
  | receive => exact updateReceive_eq_cell ..
  | receiveWait => exact updateReceiveWait_eq_cell ..
  | acknowledge => exact updateAcknowledge_eq_cell ..
  | transmitStart => exact updateTransmitStart_eq_cell ..
  | transmit => exact updateTransmit_eq_cell ..
  | transacknowledge => exact updateTransacknowledge_eq_cell ..
  | transmitWait => exact updateTransmitWait_eq_cell ..

/-- A cell that answers is what `update` runs in that state (R66, R86). -/
theorem exec_update_of_cell_next {s t : State} {i : Instr} (hfmt : i.format = .upd) (h : exec i s = .next t) :
    ∃ c d, exec (.update c d) s = .next t := by
  obtain ⟨st, pc, pd, c, d, rfl⟩ := exists_decodeUpd_of_format hfmt
  obtain ⟨k, hk⟩ := exec_decodeUpd_eq_atCell st pc pd c d s
  obtain ⟨⟨hlive, rfl, rfl, rfl⟩, -⟩ := atCell_next_iff.mp (hk.symm.trans h)
  exact ⟨c, d, by rw [exec_update_of_live hlive, runUpdate_eq_cell, h]⟩

/-! ### Operations that are refused -/

section
variable {s : State}

theorem atCell_of_not_selected {st : DecoderState} {pc pd : Level} (hlive : s.life = .live)
    (h : ¬ Selected st pc pd s) (k : Result) : atCell st pc pd s k = .refused .cellNotSelected := by
  rw [atCell, whenLive_live hlive, if_neg fun hsel => h ⟨hlive, hsel⟩]

theorem atByte_of_not_selected {ts : TransferState} {b : Byte} (hlive : s.life = .live) (h : ¬ ByteSelected ts b s)
    (k : Result) : atByte ts b s k = .refused .cellNotSelected := by
  rw [atByte, whenLive_live hlive, if_neg fun hsel => h ⟨hlive, hsel⟩]

theorem exec_of_destroyed {i : Instr} (h : s.life = .destroyed) (hi : ∀ ref label, i ≠ .create ref label) :
    exec i s = .refused .endpointDestroyed := by
  cases i
  case create ref label => exact absurd rfl (hi ref label)
  all_goals exact whenLive_destroyed h _

end

/-! ### The obligations -/

/-- Settles O2: the queue is empty, or its first call decodes. -/
theorem stepRunsTheDecodedOperation : Obligations.StepRunsTheDecodedOperation := fun _ =>
  ⟨fun _ _ _ => step_of_decode, step_of_pending_nil⟩

/-- Settles O25: each of these operations stands behind the test of its own word. -/
theorem unselectedCellsAreRefused : Obligations.UnselectedCellsAreRefused := by
  intro s st pc pd c d a b hlive
  obtain ⟨k, hk⟩ := exec_decodeUpd_eq_atCell st pc pd c d s
  have refused {ts : TransferState} {b : Byte} (h : ¬ ByteSelected ts b s) (k : Result) :=
    atByte_of_not_selected hlive h k
  exact ⟨fun h => hk.trans (atCell_of_not_selected hlive h k), fun h => ⟨refused h _, refused h _⟩,
    fun h => ⟨refused h _, refused h _⟩, (refused · _), (refused · _), (refused · _), (refused · _)⟩

/-- Settles O26: every operation but CREATE stands behind `whenLive`. -/
theorem destroyedEndpointRefusesOperations : Obligations.DestroyedEndpointRefusesOperations :=
  ⟨fun _ hlive => whenLive_live hlive _, fun _ _ => exec_of_destroyed⟩

/-- Settles O27: the word decodes to the cell of its own fields, which `update` runs on a live endpoint; on a destroyed
one both are refused. -/
theorem updateRunsTheSelectedCell : Obligations.UpdateRunsTheSelectedCell := by
  refine fun s c d => ⟨_, decode_updWord .., ?_⟩
  cases hlife : s.life with
  | live => rw [exec_update_of_live hlife, runUpdate_eq_cell]
  | destroyed =>
    obtain ⟨k, hk⟩ := exec_decodeUpd_eq_atCell s.decoderState s.clockLevel s.lastDataLevel c d s
    rw [hk, atCell, whenLive_destroyed hlife]
    exact whenLive_destroyed hlife _

end Sys2Proof.Machine
end

section
/-! What an answered `update` does to the fields and the records of the endpoint: the bit count (R15), the registry
calls (R49), the anomalies (R220, R226), the attachment (R13, R21, R29) and the bus name, which nothing reads (D30). -/

namespace Sys2Proof.Machine

open Safety

/-! ### The records of a consumed byte -/

section
variable (s : State)

/-- A byte records at most one anomaly, and forgets none (R221). -/
theorem consumeByte_trace : (consumeByte s).trace = s.trace ∨ ∃ x, (consumeByte s).trace = s.trace ++ [x] := by
  unfold consumeByte
  cases s.transferState with
  | idle =>
    dsimp only
    rw [consumeAddress_trace]
    split
    · exact .inl rfl
    · exact .inr ⟨_, rfl⟩
  | receiveAddress => exact .inl (consumeFirstData_trace ..)
  | receiveData => exact .inl (forwardByte_trace ..)
  | sendData | invalid => exact .inl rfl

theorem byteBoundary_sampleBit_trace (d : Level) : (byteBoundary (sampleBit d s)).trace = s.trace ∨
    ∃ x, (byteBoundary (sampleBit d s)).trace = s.trace ++ [x] := by
  rw [byteBoundary_sampleBit]
  split
  · exact consumeByte_trace (sampleBit d s)
  · exact .inl rfl

theorem byteBoundary_sampleBit_history (d : Level) : (byteBoundary (sampleBit d s)).history =
    s.history ++ if s.bitPosition = 7 then byteCalls (shiftIn s.shiftByte d) s else [] := by
  rw [byteBoundary_sampleBit]
  split
  · exact consumeByte_history (sampleBit d s)
  · exact (List.append_nil _).symm

theorem stopAction_history : (stopAction s).history = s.history ++ endCalls s := endTransaction_history s

theorem fetchNext_history : (fetchNext s).history = s.history ++ readCalls s := nextByte_history s

end

/-! ### The fields after an `update` -/

section
variable {pc pd c d : Level} {s t : State}

theorem UpdateEnds.lastDataLevel_eq (h : UpdateEnds pc pd c d s t) : t.lastDataLevel = d := by
  cases h <;> simp

theorem UpdateEnds.registryRef_eq (h : UpdateEnds pc pd c d s t) : t.registryRef = s.registryRef := by
  cases h <;> simp

theorem UpdateEnds.busLabel_eq (h : UpdateEnds pc pd c d s t) : t.busLabel = s.busLabel := by
  cases h <;> simp

theorem UpdateEnds.pending_eq (h : UpdateEnds pc pd c d s t) : t.pending = s.pending := by
  cases h <;> simp

theorem UpdateEnds.reply_eq (h : UpdateEnds pc pd c d s t) : t.reply = .nothing := by
  cases h <;> simp

theorem UpdateEnds.trace_eq (h : UpdateEnds pc pd c d s t) : t.trace = s.trace ∨ ∃ x, t.trace = s.trace ++ [x] := by
  cases h with
  | samples => exact byteBoundary_sampleBit_trace s d
  | notAcknowledged => exact .inr ⟨.nakEnd, stopAction_trace _⟩
  | ignores => exact .inr ⟨_, rfl⟩
  | _ => exact .inl (by simp)

end

/-! ### The registry calls (R49) -/

section
variable {c d : Level} {s t : State}

theorem callsOfUpdate_of_idle (hst : s.decoderState = .idle) : callsOfUpdate c d s = [] := by
  simp [callsOfUpdate, hst]

theorem callsOfUpdate_of_quiet (hev : classify s.clockLevel s.lastDataLevel c d = .low ∨
    classify s.clockLevel s.lastDataLevel c d = .hold ∨ classify s.clockLevel s.lastDataLevel c d = .fall) :
    callsOfUpdate c d s = [] := by
  rcases hev with hev | hev | hev <;> cases hst : s.decoderState <;> simp [callsOfUpdate, hev, hst]

/-- A rising edge makes calls only where it samples the eighth bit or acknowledges a byte. -/
theorem callsOfUpdate_of_rise (hev : rise s.clockLevel c = true) (hst : s.decoderState = .acknowledge ∨
    s.decoderState = .transmitStart ∨ s.decoderState = .transmit ∨ s.decoderState = .transmitWait) :
    callsOfUpdate c d s = [] := by
  have hcls := classify_of_rise (pd := s.lastDataLevel) (d := d) hev
  rcases hst with hst | hst | hst | hst <;> cases d <;> simp [callsOfUpdate, hst, hcls]

theorem callsOfUpdate_of_sample (hev : rise s.clockLevel c = true)
    (hst : s.decoderState = .receive ∨ s.decoderState = .receiveWait) :
    callsOfUpdate c d s = if s.bitPosition = 7 then byteCalls (shiftIn s.shiftByte d) s else [] := by
  have hcls := classify_of_rise (pd := s.lastDataLevel) (d := d) hev
  rcases hst with hst | hst <;> cases d <;> simp [callsOfUpdate, hst, hcls]

theorem callsOfUpdate_of_start (hev : classify s.clockLevel s.lastDataLevel c d = .start) :
    callsOfUpdate c d s = if s.decoderState = .transmitWait then readCalls s else [] := by
  cases hst : s.decoderState <;> simp [callsOfUpdate, hev, hst]

theorem callsOfUpdate_of_stop (hev : classify s.clockLevel s.lastDataLevel c d = .stop)
    (hst : s.decoderState ≠ .idle) : callsOfUpdate c d s = endCalls s := by
  cases h : s.decoderState <;> simp [callsOfUpdate, hev, h] at hst ⊢

theorem UpdateEnds.history_eq (h : UpdateEnds s.clockLevel s.lastDataLevel c d s t) :
    t.history = s.history ++ callsOfUpdate c d s := by
  cases h with
  | still hev => simp [callsOfUpdate_of_quiet (or_assoc.mp (.inl hev))]
  | fallQuiet hev | fallSending hev => simp [callsOfUpdate_of_quiet (.inr (.inr hev))]
  | echo hev hst =>
    rcases hst with hst | ⟨hst, -⟩
    · simp [callsOfUpdate_of_rise hev (.inr (.inr (.inr hst)))]
    · simp [callsOfUpdate_of_idle hst]
  | opens _ hst => simp [callsOfUpdate_of_idle hst]
  | samples hev hst =>
    rw [callsOfUpdate_of_sample hev hst]
    exact byteBoundary_sampleBit_history s d
  | acknowledges hev hst => simp [callsOfUpdate_of_rise hev (.inl hst)]
  | drives hev hst => simp [callsOfUpdate_of_rise hev (.inr (or_assoc.mp (.inl hst)))]
  | notAcknowledged hev hst =>
    refine (stopAction_history _).trans ?_
    simp [callsOfUpdate, hev, hst, endCalls]
  | acknowledged hev hst =>
    refine (fetchNext_history s).trans ?_
    simp [callsOfUpdate, hev, hst]
  | restarts hev hst => rcases hst with hst | hst <;> simp [callsOfUpdate_of_start hev, hst]
  | refetches hev hst =>
    rw [callsOfUpdate_of_start hev, if_pos hst]
    exact fetchNext_history s
  | stops hev hst =>
    rw [callsOfUpdate_of_stop hev hst]
    exact stopAction_history s
  | ignores hev =>
    rcases hev with ⟨-, hst⟩ | ⟨hev, hst⟩
    · simp [callsOfUpdate_of_idle hst]
    · rcases hst with hst | hst | hst | hst <;> simp [callsOfUpdate_of_start hev, hst]

theorem byteCalls_length_le (b : Byte) (s : State) : (byteCalls b s).length ≤ 3 := by
  unfold byteCalls addressCalls writeCalls
  (repeat' split) <;> simp

theorem callsOfUpdate_length_le (c d : Level) (s : State) : (callsOfUpdate c d s).length ≤ 3 := by
  have hbyte := byteCalls_length_le (shiftIn s.shiftByte d) s
  have hread : (readCalls s).length ≤ 3 := by
    unfold readCalls
    split <;> simp
  have hend : (endCalls s).length ≤ 3 := by
    unfold endCalls
    split <;> simp
  unfold callsOfUpdate
  (repeat' split) <;> simp [hbyte, hread, hend]

end

/-! ### The bus name is read by nothing (D30) -/

/-- The endpoint under another bus name. -/
def relabel (n : Label) (s : State) : State := { s with busLabel := n }

section
variable (n : Label) (s : State)

@[simp] theorem relabel_currentAddress : (relabel n s).currentAddress = s.currentAddress := rfl
@[simp] theorem relabel_registry : (relabel n s).registry = s.registry := rfl
@[simp] theorem relabel_transferState : (relabel n s).transferState = s.transferState := rfl
@[simp] theorem relabel_bitPosition : (relabel n s).bitPosition = s.bitPosition := rfl

theorem openTransaction_relabel (a : Addr) : openTransaction a (relabel n s) = relabel n (openTransaction a s) := by
  simp only [openTransaction, relabel_currentAddress]
  cases s.currentAddress <;> rfl

theorem consumeAddress_relabel (a : Addr) (r : Bool) :
    consumeAddress a r (relabel n s) = relabel n (consumeAddress a r s) := by
  have hopen : openTransaction a (callHas a (relabel n s)) = relabel n (openTransaction a (callHas a s)) :=
    openTransaction_relabel n (callHas a s) a
  simp only [consumeAddress, relabel_registry, hopen]
  cases s.registry.has a <;> cases r <;> rfl

theorem forwardByte_relabel (b : Byte) : forwardByte b (relabel n s) = relabel n (forwardByte b s) := by
  simp only [forwardByte, relabel_currentAddress]
  cases s.currentAddress <;> rfl

theorem consumeFirstData_relabel (b : Byte) :
    consumeFirstData b (relabel n s) = relabel n (consumeFirstData b s) := by
  simp only [consumeFirstData, forwardByte_relabel]
  rfl

theorem consumeByte_relabel : consumeByte (relabel n s) = relabel n (consumeByte s) := by
  simp only [consumeByte, relabel_transferState]
  cases s.transferState with
  | idle => exact consumeAddress_relabel ..
  | receiveAddress => exact consumeFirstData_relabel ..
  | receiveData => exact forwardByte_relabel ..
  | sendData | invalid => rfl

theorem byteBoundary_relabel : byteBoundary (relabel n s) = relabel n (byteBoundary s) := by
  simp only [byteBoundary, relabel_bitPosition, consumeByte_relabel, apply_ite (relabel n)]
  rfl

theorem toAcknowledgeAtEight_relabel : toAcknowledgeAtEight (relabel n s) = relabel n (toAcknowledgeAtEight s) := by
  simp only [toAcknowledgeAtEight, relabel_bitPosition, apply_ite (relabel n)]
  rfl

theorem fetchNext_relabel : fetchNext (relabel n s) = relabel n (fetchNext s) := by
  simp only [fetchNext, nextByte, relabel_currentAddress]
  cases s.currentAddress <;> rfl

theorem stopAction_relabel : stopAction (relabel n s) = relabel n (stopAction s) := by
  rw [stopAction_eq_ended, stopAction_eq_ended]
  rfl

end

/-- The same call on the endpoint under another name ends in the same body. -/
theorem UpdateEnds.relabel {pc pd c d : Level} {s t : State} (h : UpdateEnds pc pd c d s t) (n : Label) :
    UpdateEnds pc pd c d (relabel n s) (relabel n t) := by
  cases h with
  | still hev => exact .still hev
  | fallQuiet hev h₁ h₂ => exact .fallQuiet hev h₁ h₂
  | fallSending hev hst =>
    have h := UpdateEnds.fallSending (s := Machine.relabel n s) hev hst
    rw [toAcknowledgeAtEight_relabel] at h
    exact h
  | echo hev hst => exact .echo hev hst
  | opens hev hst => exact .opens hev hst
  | samples hev hst hpos =>
    have h := UpdateEnds.samples (pd := pd) (d := d) (s := Machine.relabel n s) hev hst hpos
    rw [show sampleBit d (Machine.relabel n s) = Machine.relabel n (sampleBit d s) from rfl,
      byteBoundary_relabel] at h
    exact h
  | acknowledges hev hst => exact .acknowledges hev hst
  | drives hev hst hpos => exact .drives hev hst hpos
  | notAcknowledged hev hst =>
    have h := UpdateEnds.notAcknowledged (s := Machine.relabel n s) hev hst
    rw [show raiseAnomaly .nakEnd (Machine.relabel n s) = Machine.relabel n (raiseAnomaly .nakEnd s) from rfl,
      stopAction_relabel] at h
    exact h
  | acknowledged hev hst =>
    have h := UpdateEnds.acknowledged (s := Machine.relabel n s) hev hst
    rw [fetchNext_relabel] at h
    exact h
  | restarts hev hst => exact .restarts hev hst
  | refetches hev hst =>
    have h := UpdateEnds.refetches (s := Machine.relabel n s) hev hst
    rw [fetchNext_relabel] at h
    exact h
  | stops hev hst =>
    have h := UpdateEnds.stops (s := Machine.relabel n s) hev hst
    rw [stopAction_relabel] at h
    exact h
  | ignores hev => exact .ignores hev

/-! ### The obligations -/

/-- Settles O34: each end of an `update` is the row of its state and event. -/
theorem bitPositionCountsRisingEdges : Obligations.BitPositionCountsRisingEdges := by
  intro s t c d h
  obtain ⟨-, hends⟩ := update_ends h
  cases hends with
  | still hev => rcases hev with hev | hev <;> rw [hev] <;> cases s.decoderState <;> rfl
  | fallQuiet hev | fallSending hev =>
    rw [hev]
    cases s.decoderState <;> simp
  | echo hev hst =>
    rw [classify_of_rise hev]
    rcases hst with hst | ⟨hst, hstart⟩
    · rw [hst]
      cases d <;> rfl
    · rw [hst]
      cases hpd : s.lastDataLevel <;> cases d <;> simp [hpd] at hstart ⊢
  | opens hev hst =>
    obtain ⟨rfl, hpd, rfl⟩ := levels_of_idleStart hev
    rw [hst, hpd]
    cases s.clockLevel <;> rfl
  | samples hev hst | drives hev hst =>
    rw [classify_of_rise hev]
    rcases hst with hst | hst <;> rw [hst] <;> cases d <;> simp
  | acknowledges hev hst =>
    rw [classify_of_rise hev, hst]
    cases d <;> rfl
  | notAcknowledged hev hst | acknowledged hev hst | refetches hev hst =>
    rw [hev, hst]
    simp
  | restarts hev hst => rcases hst with hst | hst <;> rw [hev, hst] <;> rfl
  | stops hev hst =>
    rw [hev]
    cases s.decoderState <;> simp
  | ignores hev =>
    rcases hev with ⟨hev, hst⟩ | ⟨hev, hst⟩
    · rw [hev, hst]
      rfl
    · rcases hst with hst | hst | hst | hst <;> rw [hev, hst] <;> rfl

/-- Settles O35: the table's calls are those of the end the call runs to, and no row of the table has more than
three. -/
theorem updateMakesTheTabledRegistryCalls : Obligations.UpdateMakesTheTabledRegistryCalls := fun _ _ _ _ h =>
  ⟨(update_ends h).2.history_eq, callsOfUpdate_length_le ..⟩

/-- Settles O37: only a missed address, a not-acknowledge and an ignored event record, each once. -/
theorem updateRecordsAtMostOneAnomaly : Obligations.UpdateRecordsAtMostOneAnomaly := fun _ _ _ _ h =>
  (update_ends h).2.trace_eq

/-- Settles O38: every end of an `update` has recorded `d` and kept the other five fields. -/
theorem updateRecordsDataAndLeavesTheAttachment : Obligations.UpdateRecordsDataAndLeavesTheAttachment := by
  intro s t c d h
  obtain ⟨-, hends⟩ := update_ends h
  exact ⟨hends.lastDataLevel_eq, hends.registryRef_eq, hends.busLabel_eq, hends.life_eq, hends.pending_eq,
    hends.reply_eq⟩

/-- Settles O39: under the other name the call ends in the same body, and an end determines the outcome. -/
theorem busNameIsInert : Obligations.BusNameIsInert := by
  intro s t c d n h
  obtain ⟨hlive, hends⟩ := update_ends h
  have hpseudo := UpdateEnds.updatePseudocode_eq (s := relabel n s) (hends.relabel n)
  exact (updateIsTheConsolidatedPseudocode (relabel n s) c d hlive).trans hpseudo

end Sys2Proof.Machine
end

section
/-! The invariants of the endpoint (10_state.md R26): what they say in each decoder state, and that every end of an
`update` has them. -/

namespace Sys2Proof.Machine

open Safety

/-! ### The invariants, one decoder state at a time -/

/-- A read with its transaction open: the slave owns the data bits (I-d, I-j). -/
def Reading (s : State) : Prop :=
  s.driveRole = .txSlave ∧ s.direction = .read ∧ s.transferState = .sendData ∧ s.currentAddress ≠ none

/-- The master owns the data bits, and a byte of a write has an address to go to (I-c, I-i, I-j). -/
def Writing (s : State) : Prop :=
  s.driveRole = .txMaster ∧ s.direction = .write ∧ s.transferState ≠ .sendData ∧
    (s.transferState = .receiveAddress ∨ s.transferState = .receiveData → s.currentAddress ≠ none)

/-- What the invariants say in the decoder state of `s`. -/
def DecoderInv (s : State) : Prop :=
  match s.decoderState with
  | .idle => Writing s ∧ s.transferState = .idle ∧ s.currentAddress = none
  | .receive => Writing s ∧ s.bitPosition ≤ 7
  | .receiveWait => Writing s ∧ s.bitPosition = 0
  | .acknowledge => (Reading s ∨ Writing s) ∧ s.transferState ≠ .idle ∧ s.bitPosition = 8
  | .transmitStart => Reading s ∧ s.bitPosition = 0
  | .transmit => Reading s ∧ (s.clockLevel = false → s.bitPosition ≤ 7)
  | .transacknowledge => Reading s ∧ s.clockLevel = false ∧ s.bitPosition = 8
  | .transmitWait => False

/-- I-i and I-j: the transfer is a read or a write. -/
theorem addressInv_and_roleInv_iff (s : State) : AddressInv s ∧ RoleInv s ↔ Reading s ∨ Writing s := by
  simp only [AddressInv, RoleInv, Reading, Writing]
  cases s.driveRole <;> cases s.direction <;> cases s.transferState <;> simp

theorem endpointInv_iff (s : State) : EndpointInv s ↔ DecoderInv s := by
  have hrole := addressInv_and_roleInv_iff s
  simp only [EndpointInv, hrole, DecoderInv]
  cases hst : s.decoderState <;> simp [IdleInv, ReceiveInv, TransmitInv, AcknowledgeInv, CountInv, hst]
  all_goals simp only [Reading, Writing]
  all_goals grind

theorem reading_of_sending {s : State} (h : DecoderInv s)
    (hst : s.decoderState = .transmitStart ∨ s.decoderState = .transmit) : Reading s := by
  rcases hst with hst | hst <;> simp only [DecoderInv, hst] at h <;> exact h.1

theorem writing_of_receiving {s : State} (h : DecoderInv s)
    (hst : s.decoderState = .receive ∨ s.decoderState = .receiveWait) : Writing s := by
  rcases hst with hst | hst <;> simp only [DecoderInv, hst] at h <;> exact h.1

theorem bitCount_le_seven {n : BitCount} (h8 : n ≠ 8) : n ≤ 7 := by
  revert n
  decide

theorem bitCount_add_one_le_seven {n : BitCount} (h8 : n ≠ 8) (h7 : n ≠ 7) : n + 1 ≤ 7 := by
  revert n
  decide

/-! ### A consumed byte -/

/-- An address byte leaves a read, a write, or an absorbed address (R163 to R165). -/
theorem consumeAddress_reading_or_writing (a : Addr) (r : Bool) (s : State) :
    Reading (consumeAddress a r s) ∨ Writing (consumeAddress a r s) := by
  unfold consumeAddress Reading Writing
  cases s.registry.has a <;> cases r <;> simp

theorem writing_forwardByte {s : State} (h : Writing s) (b : Byte) : Writing (forwardByte b s) := by
  simpa [Writing] using h

theorem writing_consumeFirstData {s : State} (h : Writing s) (hts : s.transferState = .receiveAddress) (b : Byte) :
    Writing (consumeFirstData b s) := by
  obtain ⟨hrole, hdir, -, haddr⟩ := h
  have haddr := haddr (.inl hts)
  simp [Writing, consumeFirstData, hrole, hdir, haddr]

theorem consumeByte_reading_or_writing {s : State} (h : Writing s) :
    Reading (consumeByte s) ∨ Writing (consumeByte s) := by
  unfold consumeByte
  cases hts : s.transferState with
  | idle => exact consumeAddress_reading_or_writing _ _ _
  | receiveAddress => exact .inr (writing_consumeFirstData h hts _)
  | receiveData => exact .inr (writing_forwardByte h _)
  | sendData | invalid => exact .inr h

/-! ### Every end of an `update` -/

section
variable {pc c d out : Level} {s t : State}

/-- Of the seven fields the invariants speak of the epilogue writes the clock level alone, which only TRANSMIT and
TRANSACKNOWLEDGE bound (I-f, I-g). -/
theorem decoderInv_epilogue (h : DecoderInv s)
    (hcount : s.decoderState = .transmit → c = false → s.bitPosition ≤ 7)
    (hlow : s.decoderState = .transacknowledge → c = false) : DecoderInv (epilogue pc c d out s) := by
  cases hst : s.decoderState <;> simp only [DecoderInv, epilogue_decoderState, hst] at h ⊢
  case transmit => exact ⟨h.1, hcount hst⟩
  case transacknowledge => exact ⟨h.1, hlow hst, h.2.2⟩
  all_goals exact h

/-- I-f: with the clock high the endpoint is not in TRANSACKNOWLEDGE. -/
theorem ne_transacknowledge_of_high (h : DecoderInv s) (hclock : s.clockLevel = true) :
    s.decoderState ≠ .transacknowledge := by
  intro hst
  simp [DecoderInv, hst, hclock] at h

/-- I-g, where the clock is low. -/
theorem bitPosition_le_seven_of_low (h : DecoderInv s) (hclock : s.clockLevel = false)
    (hst : s.decoderState = .transmit) : s.bitPosition ≤ 7 := by
  simp only [DecoderInv, hst] at h
  exact h.2 hclock

/-- An event that leaves the clock high, and the decoder state as it was. -/
theorem decoderInv_epilogue_high (h : DecoderInv s) (hclock : s.clockLevel = true) :
    DecoderInv (epilogue pc true d out s) :=
  decoderInv_epilogue h (fun _ hc => nomatch hc) (absurd · (ne_transacknowledge_of_high h hclock))

/-- The fall of a bit in the two transmitting states (R134, R138). -/
theorem decoderInv_fallSending (h : DecoderInv s)
    (hst : s.decoderState = .transmitStart ∨ s.decoderState = .transmit) :
    DecoderInv (epilogue pc false d out (toAcknowledgeAtEight s)) := by
  unfold toAcknowledgeAtEight
  split
  case isTrue h8 =>
    have hread := reading_of_sending h hst
    exact ⟨hread, rfl, h8⟩
  case isFalse h8 => exact decoderInv_epilogue h (fun _ _ => bitCount_le_seven h8) (fun _ => rfl)

/-- R112: the state after the acknowledge is the one of whoever owns the data bits. -/
theorem decoderInv_handOver (h : DecoderInv s) (hst : s.decoderState = .acknowledge) :
    DecoderInv (epilogue pc c d out (handOver s)) := by
  simp only [DecoderInv, hst] at h
  obtain ⟨hread | hwrite, -, -⟩ := h
  · simp [DecoderInv, hread.1]
    exact hread
  · simp [DecoderInv, hwrite.1]
    exact hwrite

/-- A sampled bit, and the byte it may complete (R106, R107). -/
theorem decoderInv_byteBoundary_sampleBit (h : Writing s) (hpos : s.bitPosition ≠ 8) :
    DecoderInv (epilogue pc c d out (byteBoundary (sampleBit d s))) := by
  rw [byteBoundary_sampleBit]
  split
  case isTrue h7 =>
    have hbyte := consumeByte_reading_or_writing (s := sampleBit d s) h
    have hcount : (consumeByte (sampleBit d s)).bitPosition = 8 := by simp [h7]
    exact ⟨hbyte, consumeByte_transferState_ne_idle _, hcount⟩
  case isFalse h7 => exact ⟨h, bitCount_add_one_le_seven hpos h7⟩

theorem UpdateEnds.decoderInv (h : UpdateEnds s.clockLevel s.lastDataLevel c d s t) (hinv : DecoderInv s) :
    DecoderInv t := by
  cases h with
  | still hev =>
    rcases hev with hev | hev
    · obtain ⟨hpc, rfl⟩ := levels_of_low hev
      exact decoderInv_epilogue hinv (fun hst _ => bitPosition_le_seven_of_low hinv hpc hst) (fun _ => rfl)
    · obtain ⟨hpc, rfl, -⟩ := levels_of_hold hev
      exact decoderInv_epilogue_high hinv hpc
  | fallQuiet hev _ h₂ =>
    obtain ⟨-, rfl⟩ := levels_of_fall hev
    exact decoderInv_epilogue hinv (absurd · h₂) (fun _ => rfl)
  | fallSending hev hst =>
    obtain ⟨-, rfl⟩ := levels_of_fall hev
    exact decoderInv_fallSending hinv hst
  | echo _ hst =>
    rcases hst with hst | ⟨hst, -⟩ <;> exact decoderInv_epilogue hinv (by simp [hst]) (by simp [hst])
  | opens _ hst =>
    simp only [DecoderInv, hst] at hinv
    exact ⟨hinv.1, Fin.zero_le 7⟩
  | samples _ hst hpos =>
    exact decoderInv_byteBoundary_sampleBit (writing_of_receiving hinv hst) hpos
  | acknowledges _ hst => exact decoderInv_handOver hinv hst
  | drives hev hst =>
    obtain ⟨-, rfl⟩ := levels_of_rise hev
    have hread := reading_of_sending hinv hst
    exact ⟨hread, fun hc => nomatch hc⟩
  | notAcknowledged | stops => simp [DecoderInv, Writing]
  | acknowledged _ hst =>
    simp only [DecoderInv, hst] at hinv
    simpa [DecoderInv, Reading] using hinv.1
  | restarts _ hst =>
    obtain ⟨hrole, hdir, -, -⟩ := writing_of_receiving hinv hst
    rcases hst with hst | hst <;> simp [DecoderInv, Writing, hst, hrole, hdir]
  | refetches _ hst => simp [DecoderInv, hst] at hinv
  | ignores hev =>
    rcases hev with ⟨hev, -⟩ | ⟨hev, -⟩
    · obtain ⟨hpc, rfl, -, -⟩ := levels_of_stop hev
      exact decoderInv_epilogue_high (s := raiseAnomaly _ s) hinv hpc
    · obtain ⟨hpc, rfl, -, -⟩ := levels_of_start hev
      exact decoderInv_epilogue_high (s := raiseAnomaly _ s) hinv hpc

end

/-! ### From the invariants of a decoder state to the obligations -/

section
variable {s t : State} {c d : Level}

theorem UpdateEnds.endpointInv (h : UpdateEnds s.clockLevel s.lastDataLevel c d s t) (hinv : EndpointInv s) :
    EndpointInv t := by
  rw [endpointInv_iff] at hinv ⊢
  exact h.decoderInv hinv

/-- I-c, I-f and I-g keep the bit count below 8 wherever the next edge is a rising one (R236). -/
theorem not_atByteBoundary_of_endpointInv (hinv : EndpointInv s) : ¬ AtByteBoundary s.clockLevel c s := by
  rw [endpointInv_iff] at hinv
  rintro ⟨hpc, -, hpos, hst⟩
  rcases hst with hst | hst | hst | hst <;> simp [DecoderInv, hst, hpc, hpos] at hinv

theorem endpointInv_freshEndpoint (ref : Handle) (label : Label) (s : State) :
    EndpointInv (freshEndpoint ref label s) := by
  rw [endpointInv_iff]
  simp [DecoderInv, Writing, freshEndpoint, State.reset]

/-- The caller's operations keep the invariants and the queue; all but CREATE and UPDATE keep every field the invariants
speak of. -/
theorem endpointInv_of_host {i : Instr} (hfmt : i.format = .host) (h : exec i s = .next t) (hinv : EndpointInv s) :
    EndpointInv t ∧ t.pending = s.pending := by
  cases i <;> simp only [Instr.format, reduceCtorEq] at hfmt
  case create ref label =>
    cases h
    exact ⟨endpointInv_freshEndpoint .., rfl⟩
  case update c d =>
    obtain ⟨-, hends⟩ := update_ends h
    exact ⟨hends.endpointInv hinv, hends.pending_eq⟩
  all_goals
    obtain ⟨-, h⟩ := whenLive_next_iff.mp h
    cases h
    exact ⟨hinv, rfl⟩

/-- In sub-state INVALID no read is under way, so the one call left to an event is the end of the transaction. -/
theorem callsOfUpdate_of_invalid (hinv : EndpointInv s) (hts : s.transferState = .invalid) :
    callsOfUpdate c d s = [] ∨ callsOfUpdate c d s = endCalls s := by
  rw [endpointInv_iff] at hinv
  cases hst : s.decoderState with
  | idle => exact .inl (callsOfUpdate_of_idle hst)
  | receive | receiveWait | acknowledge =>
    cases hcls : classify s.clockLevel s.lastDataLevel c d <;> simp [callsOfUpdate, hst, hcls, byteCalls, hts]
  | transmitStart | transmit | transacknowledge | transmitWait => simp [DecoderInv, Reading, hst, hts] at hinv

theorem eq_transactionEnd_of_mem_endCalls {e : RegistryCall} (h : e ∈ endCalls s) : ∃ a, e = .transactionEnd a := by
  unfold endCalls at h
  split at h
  · simp at h
  · exact ⟨_, List.mem_singleton.mp h⟩

end

/-! ### The obligations -/

/-- Settles O54: reset is the idle endpoint, with nothing recorded and nothing presented. -/
theorem resetMeetsTheInvariants : Obligations.ResetMeetsTheInvariants :=
  ⟨endpointInv_freshEndpoint 0 0 State.reset, fun _ hk => absurd hk List.not_mem_nil, rfl, rfl⟩

/-- Settles O55: the operation run is one of the caller's, and `update`, the one that moves the two machines, ends in
the invariants whatever body it runs. -/
theorem stepKeepsTheEndpointInvariants : Obligations.StepKeepsTheEndpointInvariants := by
  intro s t hinv hhost h
  obtain rfl | ⟨i, rest, hp, h⟩ := step_next_cases h
  · exact ⟨hinv, hhost⟩
  · have hfmt : i.format = .host := (encode_fmt i).symm.trans (hhost _ (by simp [hp]))
    obtain ⟨hinv', hpending⟩ := endpointInv_of_host hfmt h hinv
    refine ⟨hinv', fun k hk => hhost k ?_⟩
    rw [hpending] at hk
    rw [hp]
    exact List.mem_cons_of_mem _ hk

/-- Settles O56: the invariants shut out the one event that is refused, and every answered `update` keeps them. -/
theorem invariantsKeepUpdateLive : Obligations.InvariantsKeepUpdateLive := by
  intro s c d hinv hlive
  obtain ⟨t, ht⟩ := update_completes (d := d) hlive (not_atByteBoundary_of_endpointInv hinv)
  exact ⟨t, ht, (update_ends ht).2.endpointInv hinv⟩

/-- Settles O36: of the calls of the table only those of a stop can be made in INVALID. -/
theorem absorbedBytesReachNoDevice : Obligations.AbsorbedBytesReachNoDevice := by
  intro s t c d hinv hts h
  refine ⟨_, (update_ends h).2.history_eq, fun e he => ?_⟩
  rcases callsOfUpdate_of_invalid (c := c) (d := d) hinv hts with hcalls | hcalls <;> rw [hcalls] at he
  · exact absurd he List.not_mem_nil
  · exact eq_transactionEnd_of_mem_endCalls he

end Sys2Proof.Machine
end

section
/-! What an answered operation outside `UPD` did, by format, and the two properties every step keeps: the bracketing of
the registry calls (R55, R213) and the canonical form of the declared devices (log 17). -/

namespace Sys2Proof.Machine

open Safety

/-! ### What an answered operation did, by format -/

section
variable {s t : State} {i : Instr}

/-- A byte's case or an address byte that answers is `consume_byte` in that state (R64, R68). -/
theorem eq_of_byteCase_next (hfmt : i.format = .cbyte ∨ i.format = .addr) (h : exec i s = .next t) :
    t = returnNothing (consumeByte s) := by
  cases i <;> simp only [Instr.format, reduceCtorEq, or_self, or_true, true_or] at hfmt
  all_goals
    obtain ⟨⟨-, hts, hb⟩, h⟩ := atByte_next_iff.mp h
    cases h
    simp [consumeByte, hts, hb]

theorem eq_of_ctl_next (hfmt : i.format = .ctl) (h : exec i s = .next t) :
    t = returnNothing (consumeByte s) ∨ t = returnNothing (nextByte s) ∨ t = returnNothing (endTransaction s) := by
  cases i <;> simp only [Instr.format, reduceCtorEq] at hfmt
  all_goals
    obtain ⟨-, h⟩ := whenLive_next_iff.mp h
    cases h
    simp

/-- The caller's operations but CREATE and UPDATE touch the life and the reply alone. -/
theorem eq_of_host_next (hfmt : i.format = .host) (h : exec i s = .next t) :
    (∃ ref label, t = freshEndpoint ref label s) ∨ (∃ c d, exec (.update c d) s = .next t) ∨
      t = { s with life := t.life, reply := t.reply } := by
  cases i <;> simp only [Instr.format, reduceCtorEq] at hfmt
  case create ref label =>
    cases h
    exact .inl ⟨ref, label, rfl⟩
  case update c d => exact .inr (.inl ⟨c, d, h⟩)
  all_goals
    obtain ⟨-, h⟩ := whenLive_next_iff.mp h
    cases h
    exact .inr (.inr rfl)

end

/-! ### The canonical form of the declared devices (log 17) -/

section
variable {s t : State}

theorem byteBoundary_wf (s : State) : (byteBoundary s).registry.wf = s.registry.wf := by
  unfold byteBoundary
  split
  · exact consumeByte_wf s
  · rfl

theorem UpdateEnds.registry_wf {pc pd c d : Level} (h : UpdateEnds pc pd c d s t) :
    t.registry.wf = s.registry.wf := by
  cases h with
  | fallSending => simp
  | samples => exact byteBoundary_wf (sampleBit d s)
  | notAcknowledged => exact endTransaction_wf (raiseAnomaly .nakEnd s)
  | stops => exact endTransaction_wf s
  | acknowledged | refetches => exact nextByte_wf s
  | still | fallQuiet | echo | opens | acknowledges | drives | restarts | ignores => rfl

theorem registry_wf_of_reg {i : Instr} (hfmt : i.format = .reg) (h : exec i s = .next t) :
    t.registry.wf = s.registry.wf := by
  cases i <;> simp only [Instr.format, reduceCtorEq] at hfmt
  all_goals
    obtain ⟨-, h⟩ := whenLive_next_iff.mp h
    cases h
  case readByte a => exact Registry.afterRead_wf s.registry a
  all_goals rfl

theorem registry_wf_of_exec {i : Instr} (h : exec i s = .next t) : t.registry.wf = s.registry.wf := by
  cases hfmt : i.format with
  | upd =>
    obtain ⟨c, d, h⟩ := exec_update_of_cell_next hfmt h
    exact (update_ends h).2.registry_wf
  | host =>
    obtain ⟨ref, label, rfl⟩ | ⟨c, d, h⟩ | h := eq_of_host_next hfmt h
    · rfl
    · exact (update_ends h).2.registry_wf
    · rw [h]
  | ctl =>
    obtain rfl | rfl | rfl := eq_of_ctl_next hfmt h
    · exact consumeByte_wf s
    · exact nextByte_wf s
    · exact endTransaction_wf s
  | cbyte | addr =>
    obtain rfl := eq_of_byteCase_next (by simp [hfmt]) h
    exact consumeByte_wf s
  | reg => exact registry_wf_of_reg hfmt h

end

/-! ### The bracketing of the registry calls (R55, R213) -/

/-- The bracket that an endpoint with this address has open. -/
def addressBracket : Option Addr → Bracket
  | none => .closed
  | some a => .opened a

theorem bracketed_iff (s : State) : Bracketed s ↔ bracketOf s.history = addressBracket s.currentAddress := by
  unfold Bracketed addressBracket
  rfl

section
variable {s t : State}

/-- Calls that lead from the bracket of the old address to that of the new one keep a history bracketed. -/
theorem bracketed_of_append {calls : List RegistryCall} (h : Bracketed s) (hcalls : t.history = s.history ++ calls)
    (hstep : calls.foldl bracketStep (addressBracket s.currentAddress) = addressBracket t.currentAddress) :
    Bracketed t := by
  rw [bracketed_iff] at h ⊢
  rw [hcalls, bracketOf, List.foldl_append, ← bracketOf, h, hstep]

theorem bracketed_congr (h : Bracketed s) (hhist : t.history = s.history)
    (haddr : t.currentAddress = s.currentAddress) : Bracketed t := by
  rw [bracketed_iff] at h ⊢
  rw [hhist, haddr, h]

theorem bracketed_endTransaction (h : Bracketed s) : Bracketed (endTransaction s) := by
  refine bracketed_of_append h (endTransaction_history s) ?_
  cases hc : s.currentAddress <;> simp [endCalls, hc, addressBracket, bracketStep]

theorem bracketed_nextByte (h : Bracketed s) : Bracketed (nextByte s) := by
  refine bracketed_of_append h (nextByte_history s) ?_
  cases hc : s.currentAddress <;> simp [readCalls, hc, addressBracket, bracketStep]

theorem bracketed_forwardByte (h : Bracketed s) (b : Byte) : Bracketed (forwardByte b s) := by
  refine bracketed_of_append h (forwardByte_history b s) ?_
  cases hc : s.currentAddress <;> simp [writeCalls, hc, addressBracket, bracketStep]

theorem consumeAddress_currentAddress_of_not_has {a : Addr} (h : s.registry.has a = false) (r : Bool) :
    (consumeAddress a r s).currentAddress = s.currentAddress := by
  simp [consumeAddress, h]

/-- An address byte opens a bracket, moves it to another address, or leaves it (R163 to R165). -/
theorem bracketed_consumeAddress (h : Bracketed s) (a : Addr) (r : Bool) : Bracketed (consumeAddress a r s) := by
  refine bracketed_of_append h (consumeAddress_history a r s) ?_
  cases hhas : s.registry.has a with
  | false =>
    rw [consumeAddress_currentAddress_of_not_has hhas]
    cases hc : s.currentAddress <;> simp [addressCalls, hhas, addressBracket, bracketStep]
  | true =>
    rw [consumeAddress_currentAddress_of_has hhas]
    cases hc : s.currentAddress <;> cases r <;> simp [addressCalls, hc, hhas, addressBracket, bracketStep]

theorem bracketed_consumeByte (h : Bracketed s) : Bracketed (consumeByte s) := by
  unfold consumeByte
  cases s.transferState with
  | idle => exact bracketed_consumeAddress h _ _
  | receiveAddress => exact bracketed_congr (bracketed_forwardByte h s.shiftByte) rfl rfl
  | receiveData => exact bracketed_forwardByte h _
  | sendData | invalid => exact h

theorem bracketed_byteBoundary (h : Bracketed s) : Bracketed (byteBoundary s) := by
  unfold byteBoundary
  split
  · exact bracketed_consumeByte h
  · exact h

theorem UpdateEnds.bracketed {pc pd c d : Level} (hends : UpdateEnds pc pd c d s t) (h : Bracketed s) :
    Bracketed t := by
  cases hends with
  | fallSending => exact bracketed_congr h (by simp) (by simp)
  | samples => exact bracketed_byteBoundary (s := sampleBit d s) h
  | notAcknowledged => exact bracketed_endTransaction (s := raiseAnomaly .nakEnd s) h
  | stops => exact bracketed_endTransaction h
  | acknowledged | refetches => exact bracketed_nextByte h
  | still | fallQuiet | echo | opens | acknowledges | drives | restarts | ignores => exact h

theorem bracketed_freshEndpoint (ref : Handle) (label : Label) (s : State) : Bracketed (freshEndpoint ref label s) :=
  rfl

theorem bracketed_of_exec {i : Instr} (hfmt : i.format ≠ .reg) (h : exec i s = .next t) (hb : Bracketed s) :
    Bracketed t := by
  cases hi : i.format with
  | upd =>
    obtain ⟨c, d, h⟩ := exec_update_of_cell_next hi h
    exact (update_ends h).2.bracketed hb
  | host =>
    obtain ⟨ref, label, rfl⟩ | ⟨c, d, h⟩ | h := eq_of_host_next hi h
    · exact bracketed_freshEndpoint ref label s
    · exact (update_ends h).2.bracketed hb
    · rw [h]
      exact hb
  | ctl =>
    obtain rfl | rfl | rfl := eq_of_ctl_next hi h
    · exact bracketed_consumeByte hb
    · exact bracketed_nextByte hb
    · exact bracketed_endTransaction hb
  | cbyte | addr =>
    obtain rfl := eq_of_byteCase_next (by simp [hi]) h
    exact bracketed_consumeByte hb
  | reg => exact absurd hi hfmt

end

/-! ### The obligations -/

/-- Settles O57: the calls of every operation but a registry call presented from outside lead from the bracket of the
old address to that of the new one. -/
theorem stepKeepsTheHistoryBracketed : Obligations.StepKeepsTheHistoryBracketed := by
  intro s t hb hforeign h
  obtain rfl | ⟨i, rest, hp, h⟩ := step_next_cases h
  · exact hb
  · have hfmt : i.format ≠ .reg := by
      rw [← encode_fmt]
      exact hforeign _ (by simp [hp])
    exact bracketed_of_exec hfmt h hb

/-- Settles O58: no operation moves a declared address; a read, which alone touches the devices, keeps their order. -/
theorem stepKeepsTheRegistryCanonical : Obligations.StepKeepsTheRegistryCanonical := by
  intro s t hwf h
  obtain rfl | ⟨i, rest, hp, h⟩ := step_next_cases h
  · exact hwf
  · exact (registry_wf_of_exec h).trans hwf

end Sys2Proof.Machine
end

section
/-! The declared devices under repeated reads (R70, D27): a read takes one byte of the device it addresses, so `n` reads
take `n`, and no read touches an address. -/

namespace Sys2Proof.Machine

open Safety

/-! ### The devices after a number of reads -/

/-- A device after `n` reads of address `a`. -/
def afterReads (a : Addr) (n : Nat) (v : Device) : Device :=
  if v.addr = a then { v with bytes := v.bytes.drop n } else v

@[simp] theorem afterReads_addr (a : Addr) (n : Nat) (v : Device) : (afterReads a n v).addr = v.addr := by
  unfold afterReads
  split <;> rfl

theorem afterReads_of_ne {a : Addr} {v : Device} (h : a ≠ v.addr) (n : Nat) : afterReads a n v = v :=
  if_neg h.symm

theorem afterReads_self (v : Device) (n : Nat) : afterReads v.addr n v = { v with bytes := v.bytes.drop n } :=
  if_pos rfl

theorem afterReads_zero (a : Addr) : afterReads a 0 = id := by
  funext v
  simp [afterReads]

theorem afterReads_comp_one (a : Addr) (n : Nat) : afterReads a n ∘ afterReads a 1 = afterReads a (n + 1) := by
  funext v
  by_cases h : v.addr = a <;> simp [afterReads, h]

theorem afterDeviceRead_eq_map (ds : List Device) (a : Addr) : afterDeviceRead ds a = ds.map (afterReads a 1) := by
  simp [afterDeviceRead, afterReads]

theorem nextDeviceByte_afterReads (v : Device) (n : Nat) :
    nextDeviceByte (afterReads v.addr n v) = v.bytes.getD n 0xFF#8 := by
  rw [afterReads_self, nextDeviceByte, List.headD_eq_head?_getD, List.head?_drop, List.getD_eq_getElem?_getD]

/-! ### A declared registry after a number of reads -/

section
variable {r : Registry} {ds : List Device}

theorem readTimes_devices (h : r.devices = .declared ds) (a : Addr) (n : Nat) :
    (readTimes a n r).devices = .declared (ds.map (afterReads a n)) := by
  induction n generalizing r ds with
  | zero => simp [readTimes, h, afterReads_zero]
  | succ n ih =>
    have hread : (r.afterRead a).devices = .declared (ds.map (afterReads a 1)) := by
      simp only [Registry.afterRead, h, afterDeviceRead_eq_map]
    rw [readTimes, ih hread, List.map_map, afterReads_comp_one]

theorem Registry.has_iff_of_declared (h : r.devices = .declared ds) (b : Addr) :
    r.has b = true ↔ ∃ v ∈ ds, v.addr = b := by
  simp [Registry.has, h, findDevice]

theorem Registry.byte_of_declared (h : r.devices = .declared ds) (hds : risingAddresses ds = true) {v : Device}
    (hv : v ∈ ds) : r.byte v.addr = nextDeviceByte v := by
  simp only [Registry.byte, h, findDevice_of_mem hds hv]

theorem risingAddresses_map_afterReads (hds : risingAddresses ds = true) (a : Addr) (n : Nat) :
    risingAddresses (ds.map (afterReads a n)) = true := by
  rwa [risingAddresses_map _ (afterReads_addr a n)]

theorem has_readTimes_iff (h : r.devices = .declared ds) (a b : Addr) (n : Nat) :
    (readTimes a n r).has b = true ↔ ∃ v ∈ ds, v.addr = b := by
  rw [Registry.has_iff_of_declared (readTimes_devices h a n)]
  simp

/-- The read after `n` reads of a declared device returns its byte number `n`. -/
theorem byte_readTimes (h : r.devices = .declared ds) (hds : risingAddresses ds = true) {v : Device} (hv : v ∈ ds)
    (n : Nat) : (readTimes v.addr n r).byte v.addr = v.bytes.getD n 0xFF#8 := by
  have hmem : afterReads v.addr n v ∈ ds.map (afterReads v.addr n) := List.mem_map_of_mem hv
  have hds' := risingAddresses_map_afterReads hds v.addr n
  have hbyte := Registry.byte_of_declared (readTimes_devices h v.addr n) hds' hmem
  rwa [afterReads_addr, nextDeviceByte_afterReads] at hbyte

end

/-! ### The obligation -/

/-- Settles O51: reads of another address leave the device in its list as it is, so the same lemma answers for it. -/
theorem declaredDevicesAnswerInOrder : Obligations.DeclaredDevicesAnswerInOrder := by
  intro ds world hds
  refine ⟨fun a b n => has_readTimes_iff rfl a b n, fun v hv n => byte_readTimes rfl hds hv n,
    fun v hv a m n hne => ?_⟩
  have hmem : v ∈ ds.map (afterReads a m) := List.mem_map.mpr ⟨v, hv, afterReads_of_ne hne m⟩
  exact byte_readTimes (readTimes_devices rfl a m) (risingAddresses_map_afterReads hds a m) hmem n

end Sys2Proof.Machine
end

section
/-! The reset state (R30), the reserved codes (R72 b), the selected cells of the starts, the added stops and the byte
fetch (R101, R113, R135, R141, R142), and the two switches (R5). -/

namespace Sys2Proof

/-! ### Reserved codes (R72 b, D28) -/

section
variable {w : OpWord} (operands : Beside)

theorem decode_host_reserved (hw : w = 6#16 ∨ w = 7#16) :
    decode { fmt := .host, word := w, beside := operands } = .error .reservedHostOp := by
  rcases hw with rfl | rfl <;> cases operands <;> rfl

theorem decode_reg_reserved (h₁ : 5 ≤ w.toNat) (h₂ : w.toNat ≤ 7) :
    decode { fmt := .reg, word := w, beside := operands } = .error .reservedRegistryOp := by
  have hfits : ({ fmt := .reg, word := w, beside := operands } : Call).fitsWidth = true :=
    decide_eq_true (Nat.lt_succ_of_le h₂)
  simp only [decode, hfits, if_true]
  generalize w.toNat = n at h₁ h₂
  interval_cases n <;> cases operands <;> rfl

theorem decode_cbyte_reserved (h₁ : 5 * 256 ≤ w.toNat) (h₂ : w.toNat < 8 * 256) :
    decode { fmt := .cbyte, word := w, beside := .none } = .error .reservedTransferState := by
  have hfits : ({ fmt := .cbyte, word := w, beside := .none } : Call).fitsWidth = true := decide_eq_true h₂
  have hcode : (w.extractLsb' 8 3).toNat = w.toNat / 256 := by
    rw [BitVec.extractLsb'_toNat, Nat.shiftRight_eq_div_pow]
    omega
  simp only [decode, hfits, if_true, withNothingBeside, hcode]
  have h₁ : 5 ≤ w.toNat / 256 := by omega
  have h₂ : w.toNat / 256 < 8 := by omega
  generalize w.toNat / 256 = n at h₁ h₂
  interval_cases n <;> rfl

end

end Sys2Proof

namespace Sys2Proof.Machine

open Safety

/-! ### Selected cells -/

section
variable {st : DecoderState} {pd : Level} {s : State}

theorem execIdleStart_selected (hsel : Selected .idle true true s) :
    execIdleStart s = .next (recorded true false (openReception s)) := by
  rw [execIdleStart, atCell_selected hsel, epilogue_of_not_rise rfl]

/-- The loose start opens reception, and its rising edge latches the low data level (R101, D8). -/
theorem execIdleLstart_selected (hsel : Selected .idle false true s) :
    execIdleLstart s = .next (latched false (openReception s)) := by
  rw [execIdleLstart, atCell_selected hsel, epilogue_of_rise]
  rfl

/-- With the switch on, an added stop is the stop that the source names (D9). -/
theorem addedStopCell_selected (hsel : Selected st true false s) :
    addedStopCell Config.switches st s = .next (stopped s) :=
  stopCell_selected hsel

theorem nextByte_of_none (h : s.currentAddress = none) : nextByte s = s := by
  rw [nextByte, h]

theorem execTransacknowledgeRise0_selected (hsel : Selected .transacknowledge false pd s) :
    execTransacknowledgeRise0 pd s = .next (latched false { fetchNext s with decoderState := .transmitStart }) := by
  rw [execTransacknowledgeRise0, atCell_selected hsel, epilogue_of_rise]

/-- With no transaction open a fetch only resets the bit count (D22). -/
theorem fetchNext_of_none (h : s.currentAddress = none) : fetchNext s = { s with bitPosition := 0 } := by
  rw [fetchNext, nextByte_of_none h]

theorem fetchNext_of_some {a : Addr} (h : s.currentAddress = some a) :
    fetchNext s = { fetched a s with bitPosition := 0 } := by
  rw [fetchNext, nextByte_of_some h]

end

/-! ### The obligations -/

/-- Settles O1: the fields of the reset state, read off. -/
theorem resetIsAnIdleReleasedEndpoint : Obligations.ResetIsAnIdleReleasedEndpoint :=
  ⟨rfl, rfl, rfl, rfl, rfl, rfl, rfl, rfl, rfl, rfl, rfl⟩

/-- Settles O3: each reserved code falls to the last arm of its format's decoder. -/
theorem reservedCodesAreRefused : Obligations.ReservedCodesAreRefused :=
  ⟨fun _ b => decode_host_reserved b, rfl, fun _ b => decode_reg_reserved b, fun _ => decode_cbyte_reserved,
    fun _ _ _ _ => step_of_decode_error⟩

/-- Settles O4: the decoder computes each of the eight words. -/
theorem wordsOfTheTableDecode : Obligations.WordsOfTheTableDecode :=
  ⟨rfl, rfl, rfl, rfl, rfl, rfl, rfl, rfl⟩

/-- Settles O9: both cells open reception; the loose start is a rising edge too. -/
theorem startInIdleOpensReception : Obligations.StartInIdleOpensReception := fun _ =>
  ⟨execIdleStart_selected, execIdleLstart_selected⟩

/-- Settles O13: RECEIVE_WAIT runs the named stop's body, and the added stops run it under the switch. -/
theorem decidedStopsEndTheTransaction : Obligations.DecidedStopsEndTheTransaction := fun _ =>
  ⟨stopCell_selected, addedStopCell_selected, addedStopCell_selected, addedStopCell_selected⟩

/-- Settles O14: RECEIVE_WAIT's start runs RECEIVE's body; the other four cells are quiet. -/
theorem receiveWaitSharesTheReceiveBody : Obligations.ReceiveWaitSharesTheReceiveBody := fun _ _ d =>
  ⟨repeatedStartCell_selected, (quietCell_recorded · rfl d), (quietCell_recorded · rfl d),
    (quietCell_recorded · rfl false), (quietCell_recorded · rfl true)⟩

/-- Settles O17: seven quiet cells, and TRANSMIT_START's fall, which shares TRANSMIT's body. -/
theorem otherClassesInAcknowledgeAndTransmitStart : Obligations.OtherClassesInAcknowledgeAndTransmitStart :=
  fun _ _ d =>
    ⟨(quietCell_recorded · rfl d), (quietCell_recorded · rfl d), (quietCell_recorded · rfl false),
      (quietCell_recorded · rfl true), (quietCell_recorded · rfl d), (quietCell_recorded · rfl false),
      (quietCell_recorded · rfl true), (fallCell_of_ne_eight · · d), (fallCell_of_eq_eight · · d)⟩

/-- Settles O18: both states run one body. -/
theorem risingEdgeDrivesABit : Obligations.RisingEdgeDrivesABit := fun _ _ d hpos =>
  ⟨(driveCell_selected · hpos d), (driveCell_selected · hpos d)⟩

/-- Settles O19: the four states run one body, each with its own name in the record. -/
theorem ignoredStartsAreRecorded : Obligations.IgnoredStartsAreRecorded := fun _ =>
  ⟨(ignoredCell_selected · .start false), (ignoredCell_selected · .start false),
    (ignoredCell_selected · .start false), (ignoredCell_selected · .start false)⟩

/-- Settles O22: the cell's rising edge latches the master's 0, and its fetch is split by the address. -/
theorem acknowledgedByteFetchesTheNext : Obligations.AcknowledgedByteFetchesTheNext := by
  refine fun s pd hsel => ⟨fun a ha => (execTransacknowledgeRise0_selected hsel).trans ?_,
    fun ha => (execTransacknowledgeRise0_selected hsel).trans ?_⟩
  · rw [fetchNext_of_some ha]
    rfl
  · rw [fetchNext_of_none ha]
    rfl

/-- Settles O40: each switch chooses a branch, and the two start tests are read off their levels. -/
theorem switchesChooseBetweenTheTwoReadings : Obligations.SwitchesChooseBetweenTheTwoReadings := by
  refine fun s st loose stops pc pd c d => ⟨stopAction_eq_ended s, rfl, ?_, ?_⟩
  · simp [idleStartCondition, and_assoc]
  · simp [idleStartCondition, startCondition, high, and_assoc]

end Sys2Proof.Machine
end

section
/-! The Transfer Controller's commands and address bytes (R163 to R165, R172, R175), the registry contract (R205 to
R209) and the endpoint's own boundary (R191, R196 to R198). -/

namespace Sys2Proof.Machine

open Safety

/-! ### An address byte, by what it finds (R163 to R165) -/

section
variable {a : Addr} {s : State}

/-- A device found with no transaction open: the transaction is announced to the registry. -/
theorem openTransaction_found_of_none (hhas : s.registry.has a = true) (h : s.currentAddress = none) :
    openTransaction a (callHas a s) =
      { s with
        currentAddress := some a
        registry := s.registry.afterStart a
        history := s.history ++ [.hasDevice a true, .transactionStart a] } := by
  simp [openTransaction, callStart, callHas, h, hhas]

/-- A device found with a transaction open: only the address moves. -/
theorem openTransaction_found_of_ne_none (hhas : s.registry.has a = true) (h : s.currentAddress ≠ none) :
    openTransaction a (callHas a s) =
      { s with currentAddress := some a, history := s.history ++ [.hasDevice a true] } := by
  obtain ⟨b, hb⟩ := Option.ne_none_iff_exists'.mp h
  simp [openTransaction, callHas, hb, hhas]

theorem consumeAddress_of_not_has (h : s.registry.has a = false) (r : Bool) :
    consumeAddress a r s = addressMiss a (callHas a s) := by
  simp [consumeAddress, h]

theorem consumeAddress_write_of_has (h : s.registry.has a = true) :
    consumeAddress a false s = writePath (openTransaction a (callHas a s)) := by
  simp [consumeAddress, h]

theorem consumeAddress_read_of_has (h : s.registry.has a = true) :
    consumeAddress a true s = readPath a (openTransaction a (callHas a s)) := by
  simp [consumeAddress, h]

/-! ### A data byte without an address (D22, log 11) -/

theorem forwardByte_of_none (h : s.currentAddress = none) (b : Byte) : forwardByte b s = s := by
  rw [forwardByte, h]

theorem consumeFirstData_of_none (h : s.currentAddress = none) (b : Byte) : consumeFirstData b s =
    { s with transferState := if s.direction = .read then .sendData else .receiveData } := by
  rw [consumeFirstData, forwardByte_of_none h]
  cases s.direction <;> rfl

theorem endTransaction_eq_ended (s : State) :
    endTransaction s = { ended s with decoderState := s.decoderState } := by
  unfold endTransaction endIfOpen ended
  cases s.currentAddress <;> simp [callEnd]

end

/-! ### The obligations -/

/-- Settles O42: the byte's two operations run one action, whose lookup misses. -/
theorem absentAddressIsAbsorbed : Obligations.AbsentAddressIsAbsorbed := by
  refine fun s a r hsel hhas => ⟨(exec_consumeIdle_selected r hsel).trans ?_, by cases r <;> rfl⟩
  rw [consumeAddress_of_not_has hhas, callHas, hhas]
  rfl

/-- Settles O43: the lookup finds the device, and the transaction is opened or only moved; then the write path. -/
theorem writeAddressOpensTheTransaction : Obligations.WriteAddressOpensTheTransaction := by
  intro s a hsel hhas
  have hexec : exec (.consumeIdleWr a) s = _ := exec_consumeIdle_selected false hsel
  rw [consumeAddress_write_of_has hhas] at hexec
  refine ⟨fun hnone => hexec.trans ?_, fun hopen => hexec.trans ?_, rfl⟩
  · rw [openTransaction_found_of_none hhas hnone]
    rfl
  · rw [openTransaction_found_of_ne_none hhas hopen]
    rfl

/-- Settles O44: the lookup finds the device, and the transaction is opened or only moved; then the read path fetches
from the registry as that left it. -/
theorem readAddressPrefetchesTheFirstByte : Obligations.ReadAddressPrefetchesTheFirstByte := by
  intro s a hsel hhas
  have hexec : exec (.consumeIdleRd a) s = _ := exec_consumeIdle_selected true hsel
  rw [consumeAddress_read_of_has hhas] at hexec
  refine ⟨fun hnone => hexec.trans ?_, fun hopen => hexec.trans ?_, rfl⟩
  · rw [openTransaction_found_of_none hhas hnone]
    simp [readPath, loadByte, callRead, returnNothing]
  · rw [openTransaction_found_of_ne_none hhas hopen]
    simp [readPath, loadByte, callRead, returnNothing]

/-- Settles O46: neither data byte finds an address to go to, and neither does the fetch. -/
theorem withoutAnAddressNoDataCallIsMade : Obligations.WithoutAnAddressNoDataCallIsMade := by
  refine fun s b hnone => ⟨fun hsel => (atByte_selected hsel _).trans ?_,
    fun hsel => (atByte_selected hsel _).trans ?_, fun hsel => (execTransmitWaitStart_selected hsel).trans ?_⟩
  · rw [consumeFirstData_of_none hnone]
    rfl
  · rw [forwardByte_of_none hnone]
    rfl
  · rw [fetchNext_of_none hnone]
    rfl

/-- Settles O48: the fetch is split by the address, and the end of the transaction is the stop's without its move to
IDLE. -/
theorem nextByteAndEndTransaction : Obligations.NextByteAndEndTransaction := by
  refine fun s hlive => ⟨fun a ha => (whenLive_live hlive _).trans ?_, fun ha => (whenLive_live hlive _).trans ?_,
    (exec_endTransaction_live hlive).trans ?_⟩
  · rw [nextByte_of_some ha]
    rfl
  · rw [nextByte_of_none ha]
    rfl
  · rw [endTransaction_eq_ended]
    rfl

/-- Settles O49: on a live endpoint each of the four is its registry call. -/
theorem registryCallsAreMadeAndRecorded : Obligations.RegistryCallsAreMadeAndRecorded := fun _ _ _ hlive =>
  ⟨whenLive_live hlive _, whenLive_live hlive _, whenLive_live hlive _, whenLive_live hlive _⟩

/-- Settles O50: the lookup is recorded and answered. -/
theorem hasDeviceHasNoSideEffect : Obligations.HasDeviceHasNoSideEffect := fun _ _ hlive => whenLive_live hlive _

/-- Settles O52: CREATE asks nothing of the state it replaces. -/
theorem createGivesAFreshEndpoint : Obligations.CreateGivesAFreshEndpoint := fun _ _ _ => rfl

/-- Settles O53: on a live endpoint each getter sets the reply alone. -/
theorem gettersReturnWhatIsStored : Obligations.GettersReturnWhatIsStored := fun _ hlive =>
  ⟨exec_getClockLevel_live hlive, exec_getDataLevel_live hlive, whenLive_live hlive _⟩

end Sys2Proof.Machine
end

section
/-! Bytes on the wire (R42, R71, R73): what one bit of the master's `WBYTE` and of `RBIT` does, and by induction what
the bits of a byte do. -/

namespace Sys2Proof.Machine

open Safety

/-! ### The shift register over a byte's bits (R73, R93) -/

/-- Eight bits shifted in leave nothing of the old register. -/
theorem foldl_shiftIn_disassembleByte (v b : Byte) : (disassembleByte b).foldl shiftIn v = b := by
  refine BitVec.eq_of_getLsbD_eq fun i hi => ?_
  unfold disassembleByte
  interval_cases i <;> simp [shiftIn_getLsbD, -BitVec.getLsbD_eq_getElem]

/-- The next `n` outgoing bits of a register (R133). -/
def outgoingBits : Nat → Byte → List Level
  | 0, _ => []
  | n + 1, v => outgoingBit v :: outgoingBits n (shiftIn v false)

/-- The register after `n` driven bits (D16). -/
def afterOutgoing : Nat → Byte → Byte
  | 0, v => v
  | n + 1, v => afterOutgoing n (shiftIn v false)

theorem outgoingBits_eight (v : Byte) : outgoingBits 8 v = disassembleByte v := by
  simp [outgoingBits, disassembleByte, outgoingBit, shiftIn_getLsbD, -BitVec.getLsbD_eq_getElem]

theorem afterOutgoing_eight (v : Byte) : afterOutgoing 8 v = 0x00#8 := by
  refine BitVec.eq_of_getLsbD_eq fun i hi => ?_
  unfold afterOutgoing
  interval_cases i <;> simp [afterOutgoing, shiftIn_getLsbD, -BitVec.getLsbD_eq_getElem]

theorem bitCount_add_one_val {n : BitCount} (h : n.val < 8) : (n + 1).val = n.val + 1 := by
  revert n
  decide

/-! ### One call -/

section
variable {d : Level} {s : State}

theorem exec_update_low (hlive : s.life = .live) (hclock : s.clockLevel = false) :
    exec (.update false d) s = .next (recorded false d s) := by
  have hsel := selected_of_live hlive
  rw [hclock] at hsel
  rw [exec_update_of_live hlive, hclock, runUpdate_low, quietCell_recorded hsel rfl]

theorem exec_update_fall_quiet (hlive : s.life = .live) (hclock : s.clockLevel = true)
    (h₁ : s.decoderState ≠ .transmitStart) (h₂ : s.decoderState ≠ .transmit) :
    exec (.update false d) s = .next (recorded false d s) := by
  have hsel := selected_of_live hlive
  rw [hclock] at hsel
  rw [exec_update_of_live hlive, hclock, runUpdate_fall_quiet h₁ h₂, quietCell_recorded hsel rfl]

theorem exec_update_fall_sending (hlive : s.life = .live) (hclock : s.clockLevel = true)
    (hst : s.decoderState = .transmitStart ∨ s.decoderState = .transmit) :
    exec (.update false d) s = .next (recorded false d (toAcknowledgeAtEight s)) := by
  have hsel := selected_of_live hlive
  rw [hclock] at hsel
  rw [exec_update_of_live hlive, hclock, runUpdate_fall_sending hst, fallCell_selected hsel]

theorem exec_update_sample (hlive : s.life = .live) (hclock : s.clockLevel = false)
    (hst : s.decoderState = .receive ∨ s.decoderState = .receiveWait) :
    exec (.update true d) s = sampleCell s.decoderState s.lastDataLevel d s := by
  rw [exec_update_of_live hlive, hclock, runUpdate_rise_receiving hst]

theorem exec_update_drive (hlive : s.life = .live) (hclock : s.clockLevel = false)
    (hst : s.decoderState = .transmitStart ∨ s.decoderState = .transmit) (hpos : s.bitPosition ≠ 8) :
    exec (.update true d) s = .next (driven d s) := by
  have hsel := selected_of_live hlive
  rw [hclock] at hsel
  rw [exec_update_of_live hlive, hclock, runUpdate_rise_sending hst, driveCell_selected hsel hpos]

/-! ### Calls in sequence -/

theorem runUpdates_cons {us : List (Level × Level)} {c : Level} {t : State} (h : exec (.update c d) s = .next t) :
    runUpdates ((c, d) :: us) s = runUpdates us t := by
  rw [runUpdates, h]

theorem runUpdates_append {us vs : List (Level × Level)} {t : State} (h : runUpdates us s = .next t) :
    runUpdates (us ++ vs) s = runUpdates vs t := by
  induction us generalizing s with
  | nil => cases h; rfl
  | cons u us ih =>
    obtain ⟨c, d⟩ := u
    cases hexec : exec (.update c d) s with
    | next u =>
      rw [runUpdates_cons hexec] at h
      rw [List.cons_append, runUpdates_cons hexec, ih h]
    | fault r => simp [runUpdates, hexec] at h
    | refused r => simp [runUpdates, hexec] at h

end

/-! ### The bits of `WBYTE` -/

/-- A live endpoint that samples, between two clock pulses. -/
def ReadyToSample (s : State) : Prop :=
  s.life = .live ∧ s.clockLevel = false ∧ (s.decoderState = .receive ∨ s.decoderState = .receiveWait)

/-- The endpoint after one `WBIT`, below the eighth bit (R106). -/
def afterWbit (s : State) (b : Level) : State := recorded false b (sampled b (recorded false b s))

section
variable {b : Level} {bs : List Level} {s : State}

theorem readyToSample_recorded (h : ReadyToSample s) (b : Level) : ReadyToSample (recorded false b s) :=
  ⟨h.1, rfl, h.2.2⟩

theorem readyToSample_afterWbit (h : ReadyToSample s) (b : Level) : ReadyToSample (afterWbit s b) :=
  ⟨h.1, rfl, .inl rfl⟩

theorem exec_update_sampled (h : ReadyToSample s) (hpos : s.bitPosition < 7) :
    exec (.update true b) s = .next (sampled b s) := by
  obtain ⟨hlive, hclock, hst⟩ := h
  rw [exec_update_sample hlive hclock hst, sampleCell_of_lt_seven ⟨hlive, rfl, hclock, rfl⟩ hpos]

theorem exec_update_sampled_last (h : ReadyToSample s) (hpos : s.bitPosition = 7) :
    exec (.update true b) s = .next { consumeByte (sampled b s) with decoderState := .acknowledge } := by
  obtain ⟨hlive, hclock, hst⟩ := h
  rw [exec_update_sample hlive hclock hst, sampleCell_of_eq_seven ⟨hlive, rfl, hclock, rfl⟩ hpos]

theorem runUpdates_wbit (h : ReadyToSample s) (hpos : s.bitPosition < 7) :
    runUpdates (wbit b) s = .next (afterWbit s b) := by
  have hput := exec_update_low (d := b) h.1 h.2.1
  have hrise := exec_update_sampled (b := b) (readyToSample_recorded h b) hpos
  have hfall : exec (.update false b) (sampled b (recorded false b s)) = .next (afterWbit s b) :=
    exec_update_fall_quiet h.1 rfl (by simp [sampled]) (by simp [sampled])
  rw [wbit, runUpdates_cons hput, runUpdates_cons hrise, runUpdates_cons hfall, runUpdates]

theorem afterWbit_bitPosition_val (hpos : s.bitPosition.val < 8) :
    (afterWbit s b).bitPosition.val = s.bitPosition.val + 1 :=
  bitCount_add_one_val hpos

/-- Below the eighth bit a list of `WBIT` samples its bits one by one. -/
theorem runUpdates_wbits (h : ReadyToSample s) (hpos : s.bitPosition.val + bs.length ≤ 7) :
    runUpdates (bs.flatMap wbit) s = .next (bs.foldl afterWbit s) ∧ ReadyToSample (bs.foldl afterWbit s) ∧
      (bs.foldl afterWbit s).bitPosition.val = s.bitPosition.val + bs.length := by
  induction bs generalizing s with
  | nil => exact ⟨rfl, h, rfl⟩
  | cons b bs ih =>
    rw [List.length_cons] at hpos ⊢
    have hpos' := afterWbit_bitPosition_val (b := b) (show s.bitPosition.val < 8 by omega)
    obtain ⟨hrun, hready, hcount⟩ := ih (readyToSample_afterWbit h b) (by omega)
    refine ⟨?_, hready, hcount.trans (by omega)⟩
    rw [List.flatMap_cons, runUpdates_append (runUpdates_wbit h (Fin.lt_def.mpr (by omega))), hrun]
    rfl

/-- A data byte is one `write_byte` at the current address (R166, R167). -/
theorem consumeByte_of_data {a : Addr} (hts : s.transferState = .receiveAddress ∨ s.transferState = .receiveData)
    (ha : s.currentAddress = some a) : consumeByte s =
      { callWrite a s.shiftByte s with
        transferState :=
          if s.transferState = .receiveAddress ∧ s.direction = .read then .sendData else .receiveData } := by
  rcases hts with hts | hts
  · simp [consumeByte, hts, consumeFirstData_of_some ha]
  · simp [consumeByte, hts, forwardByte_of_some ha, callWrite]

theorem wbyteToEighthBit_eq (xx : Byte) : wbyteToEighthBit xx =
    (disassembleByte xx).dropLast.flatMap wbit ++ [(false, xx.getLsbD 0), (true, xx.getLsbD 0)] := rfl

/-- The endpoint with the eight bits of `xx` sampled, before the byte is consumed. -/
def received (xx : Byte) (s : State) : State :=
  { s with
    decoderState := .receive, shiftByte := xx, bitPosition := 8
    clockLevel := true, lastDataLevel := xx.getLsbD 0, dataLevel := xx.getLsbD 0, reply := .nothing }

theorem sampled_foldl_afterWbit (xx : Byte) (hpos : s.bitPosition = 0) :
    sampled (xx.getLsbD 0) (recorded false (xx.getLsbD 0) ((disassembleByte xx).dropLast.foldl afterWbit s)) =
      received xx s := by
  have hcount : s.bitPosition + 1 + 1 + 1 + 1 + 1 + 1 + 1 + 1 = 8 := by
    rw [hpos]
    rfl
  have hfields : sampled (xx.getLsbD 0)
      (recorded false (xx.getLsbD 0) ((disassembleByte xx).dropLast.foldl afterWbit s)) =
      { received xx s with
        shiftByte := (disassembleByte xx).foldl shiftIn s.shiftByte
        bitPosition := s.bitPosition + 1 + 1 + 1 + 1 + 1 + 1 + 1 + 1 } := rfl
  rw [hfields, foldl_shiftIn_disassembleByte, hcount]
  rfl

/-- Seven `WBIT` and the eighth rising edge consume the byte they carried (R106, R107). -/
theorem runUpdates_wbyteToEighthBit (h : ReadyToSample s) (hpos : s.bitPosition = 0) (xx : Byte) :
    runUpdates (wbyteToEighthBit xx) s =
      .next { consumeByte (received xx s) with decoderState := .acknowledge } := by
  obtain ⟨hrun, hready, hcount⟩ :=
    runUpdates_wbits (bs := (disassembleByte xx).dropLast) h (by simp [hpos, disassembleByte])
  have hseven : ((disassembleByte xx).dropLast.foldl afterWbit s).bitPosition = 7 :=
    Fin.ext (hcount.trans (by simp [hpos, disassembleByte]))
  have hput := exec_update_low (d := xx.getLsbD 0) hready.1 hready.2.1
  have hrise := exec_update_sampled_last (b := xx.getLsbD 0) (readyToSample_recorded hready (xx.getLsbD 0)) hseven
  rw [wbyteToEighthBit_eq, runUpdates_append hrun, runUpdates_cons hput, runUpdates_cons hrise, runUpdates,
    sampled_foldl_afterWbit xx hpos]

end

/-! ### The bits of `RBIT` -/

/-- A live endpoint that drives, between two clock pulses. -/
def ReadyToDrive (s : State) : Prop :=
  s.life = .live ∧ s.clockLevel = false ∧ (s.decoderState = .transmitStart ∨ s.decoderState = .transmit)

/-- The endpoint with the clock of an `RBIT` high, when the master reads the line (R133). -/
def drivenBit (s : State) : State := driven true (recorded false true s)

/-- The endpoint after one `RBIT` (R133, R134). -/
def afterRbit (s : State) : State := recorded false true (toAcknowledgeAtEight (drivenBit s))

section
variable {s : State}

theorem runUpdates_drivenBit (h : ReadyToDrive s) (hpos : s.bitPosition ≠ 8) :
    runUpdates [(false, true), (true, true)] s = .next (drivenBit s) := by
  obtain ⟨hlive, hclock, hst⟩ := h
  have hrelease := exec_update_low (d := true) hlive hclock
  have hrise : exec (.update true true) (recorded false true s) = .next (drivenBit s) :=
    exec_update_drive hlive rfl hst hpos
  rw [runUpdates_cons hrelease, runUpdates_cons hrise, runUpdates]

theorem runUpdates_afterRbit (h : ReadyToDrive s) :
    runUpdates [(false, true)] (drivenBit s) = .next (afterRbit s) := by
  have hfall : exec (.update false true) (drivenBit s) = .next (afterRbit s) :=
    exec_update_fall_sending h.1 rfl (.inr rfl)
  rw [runUpdates_cons hfall, runUpdates]

theorem readLevels_succ {n : Nat} {vs : List Level} {t : State} (h : ReadyToDrive s) (hpos : s.bitPosition ≠ 8)
    (hrest : readLevels n (afterRbit s) = some (vs, t)) :
    readLevels (n + 1) s = some (outgoingBit s.shiftByte :: vs, t) := by
  simp only [readLevels, runUpdates_drivenBit h hpos, runUpdates_afterRbit h, hrest]
  rfl

/-- The eighth bit is followed by the move to TRANSACKNOWLEDGE (R134), every other by the next bit. -/
theorem afterRbit_decoderState (s : State) : (afterRbit s).decoderState =
    if s.bitPosition + 1 = 8 then .transacknowledge else .transmit := by
  change (if s.bitPosition + 1 = 8 then _ else drivenBit s : State).decoderState = _
  split <;> rfl

theorem readyToDrive_afterRbit (h : ReadyToDrive s) (hpos : s.bitPosition + 1 ≠ 8) : ReadyToDrive (afterRbit s) :=
  ⟨(toAcknowledgeAtEight_life _).trans h.1, rfl, .inr ((afterRbit_decoderState s).trans (if_neg hpos))⟩

theorem afterRbit_bitPosition (s : State) : (afterRbit s).bitPosition = s.bitPosition + 1 :=
  toAcknowledgeAtEight_bitPosition _

theorem afterRbit_shiftByte (s : State) : (afterRbit s).shiftByte = shiftIn s.shiftByte false :=
  toAcknowledgeAtEight_shiftByte _

theorem afterRbit_history (s : State) : (afterRbit s).history = s.history := toAcknowledgeAtEight_history _

theorem afterRbit_registry (s : State) : (afterRbit s).registry = s.registry := toAcknowledgeAtEight_registry _

theorem afterRbit_currentAddress (s : State) : (afterRbit s).currentAddress = s.currentAddress :=
  toAcknowledgeAtEight_currentAddress _

/-- The bits still to come of a byte are read in order, and the last of them ends in TRANSACKNOWLEDGE. -/
theorem readLevels_to_eight (n : Nat) (h : ReadyToDrive s) (hpos : s.bitPosition.val + (n + 1) = 8) :
    ∃ t, readLevels (n + 1) s = some (outgoingBits (n + 1) s.shiftByte, t) ∧ t.decoderState = .transacknowledge ∧
      t.bitPosition = 8 ∧ t.shiftByte = afterOutgoing (n + 1) s.shiftByte ∧ t.history = s.history ∧
      t.registry = s.registry ∧ t.currentAddress = s.currentAddress := by
  have hcount := bitCount_add_one_val (show s.bitPosition.val < 8 by omega)
  have hne : s.bitPosition ≠ 8 := fun h8 => by simp [h8] at hpos
  induction n generalizing s with
  | zero =>
    have height : s.bitPosition + 1 = 8 := Fin.ext (hcount.trans hpos)
    exact ⟨afterRbit s, readLevels_succ h hne rfl, (afterRbit_decoderState s).trans (if_pos height),
      (afterRbit_bitPosition s).trans height, afterRbit_shiftByte s, afterRbit_history s, afterRbit_registry s,
      afterRbit_currentAddress s⟩
  | succ n ih =>
    have hne' : s.bitPosition + 1 ≠ 8 := fun h8 => by simp [h8] at hcount; omega
    have hval := congrArg Fin.val (afterRbit_bitPosition s)
    obtain ⟨t, hread, hst, hbits, hshift, hhist, hreg, haddr⟩ := ih (readyToDrive_afterRbit h hne') (by omega)
      (bitCount_add_one_val (by omega)) (by rwa [afterRbit_bitPosition])
    rw [afterRbit_shiftByte] at hread hshift
    exact ⟨t, readLevels_succ h hne hread, hst, hbits, hshift, hhist.trans (afterRbit_history s),
      hreg.trans (afterRbit_registry s), haddr.trans (afterRbit_currentAddress s)⟩

end

/-! ### The obligations -/

/-- Settles O59: the eight bits are sampled and consumed, and the byte is a data byte of a write. -/
theorem byteOnTheWireIsWrittenToTheDevice : Obligations.ByteOnTheWireIsWrittenToTheDevice := by
  intro s xx a hlive hst hpos hclock hts ha
  have hrun := runUpdates_wbyteToEighthBit ⟨hlive, hclock, hst⟩ hpos xx
  rw [consumeByte_of_data (s := received xx s) hts ha] at hrun
  exact ⟨_, hrun, rfl, rfl, rfl, rfl, rfl, ha, rfl, rfl⟩

/-- Settles O60: eight bits are left to drive at bit count 0, and no bit makes a registry call. -/
theorem byteIsReadBackOnTheWire : Obligations.ByteIsReadBackOnTheWire := by
  intro s hlive hst hpos hclock
  rw [← outgoingBits_eight, ← afterOutgoing_eight s.shiftByte]
  exact readLevels_to_eight 7 ⟨hlive, hclock, hst⟩ (by rw [hpos]; rfl)

end Sys2Proof.Machine
end
